-- ==== Sys2Proof/Word.lean ====
section
/-! DEFINITION. The words of the KT-48: bytes of a frame, tag codes, ranks and Campaign Clock times, with the
widths section 3 of spec/00_scope.md and R143 give them. -/

namespace Sys2Proof

/-- One byte of a frame (R158). -/
abbrev Byte := BitVec 8

/-- A tag code: the 64-bit unsigned identity of a tag (R4, R68). -/
abbrev Tag := BitVec 64

/-- A rank: the 32-bit unsigned key that orders items by call number (R4). -/
abbrev Rank := BitVec 32

/-- A Campaign Clock time, counted in ticks of 10 ms modulo 2^32 (R180). -/
abbrev Time := BitVec 32

/-- A set of the 21 live conditions, latches or edge enables: bit n stands for condition n (R182). -/
abbrev Conditions := BitVec 21

end Sys2Proof
end

