-- ==== Sys2Proof/Syntax.lean ====
section
/-! DEFINITION. The commands of the KT-48, one constructor per row of spec/opcode_table.json, with the operands that come
from outside: the frames that arrive (R158 to R161, section 9.7), the pins and links, and the lane whose dwell
timer expires. A served request has no operand of its own: its tag, kind and arguments came in its REQUEST frame
and wait in its slot of the Request Queue (R171), where the serving command finds them. -/

namespace Sys2Proof

/-- The two ports of section 2.1 of spec/00_scope.md. -/
inductive Port where
  | field
  | trunk
  deriving DecidableEq, Repr

/-- One item record of a LOAD_ITEMS request, as it stands in the frame (9.7.4). -/
structure WireItem where
  tag : Tag
  rank : Rank
  /-- The circulation status code as carried, 0..255; R11 refuses a code outside the six. -/
  status : Nat
  deriving DecidableEq, Repr

/-- A request as it stands in its slot: its kind and its arguments, laid out in 9.7.4. Numbers are kept as the
frame carries them; what is out of range is refused by the request's own rule (R161). -/
inductive Request where
  | identify
  | readStatus (selector : Nat)
  | option (operation code : Nat) (value : BitVec 32)
  | setWindow (lane base limit : Nat)
  | setClock (value : Time)
  | loadBegin (segment countField twinPresence twin : Nat)
  | loadItems (segment offset : Nat) (records : List WireItem)
  | loadEnd (segment : Nat)
  | loadAbort (segment : Nat)
  | unload (segment : Nat)
  | recount (segment : Nat)
  | closeSegment (segment : Nat)
  | querySegment (segment : Nat)
  | queryItem (selector : Nat) (value : BitVec 64)
  | loadWeights (knots : Vector (BitVec 16) 17)
  | readNotices
  | restartCount
  | reset
  /-- A kind code that 9.7.4 does not define, with whatever bytes follow it (R174). -/
  | unknown (code : Nat) (args : List Byte)
  deriving DecidableEq, Repr

/-- One sighting of a SIGHT frame (9.7.2): the RSSI is the signed byte as received, the position word is split
into its presence flag and its 15-bit value. -/
structure WireSighting where
  tag : Tag
  rssi : BitVec 8
  positioned : Bool
  position : Nat
  deriving DecidableEq, Repr

/-- One event of a CIRC frame (9.7.3): kind code, status value and tag code as carried. -/
structure WireEvent where
  kind : Nat
  status : Nat
  tag : Tag
  deriving DecidableEq, Repr

/-- What FRAME_DISCARD is given: the bytes received between two delimiters, or a frame in progress that a new
start delimiter ended (R160). -/
inductive Received where
  | bytes (frame : List Byte)
  | interrupted
  deriving DecidableEq, Repr

/-- The commands, in the order of spec/opcode_table.json. -/
inductive Instr where
  | identify
  | readStatus
  | optionRead
  | optionWrite
  | optionSet
  | optionClear
  | setWindow
  | setClock
  | loadBegin
  | loadItems
  | loadEnd
  | loadEndCheckDone
  | loadAbort
  | unload
  | recount
  | closeSegment
  | querySegment
  | queryItem
  | queryItemHoldCleared
  | loadWeights
  | readNotices
  | restartCount
  | restartCountComplete
  | reset
  | resetComplete
  | unknownRequest
  | request (tag : Byte) (req : Request)
  | circ (events : List WireEvent)
  | laneMsg (lane : Nat) (body : List Byte)
  | laneUp (lane : Nat)
  | laneDown (lane : Nat)
  | enterFrame (lane rel : Nat)
  | leaveFrame (lane : Nat)
  | sightFrame (lane : Nat) (sightings : List WireSighting)
  | frameDiscard (port : Port) (what : Received)
  | drainEnter
  | drainSight
  | drainLeave
  | reevaluatePendingEnter
  | dwellTimeout (lane : Fin 8)
  | campaignClockTick
  | settleFreeze
  | settleEstimates
  | settleResolution
  | settleOrderChain
  | settleResultWrite
  | settleResume
  | settleSweepItem
  | settleSummary
  | settleRelease
  | deferredScan
  | upstreamSelect
  | replySent
  | noticeSent
  | findingSent
  | fieldSelect
  | controlSignalSent
  | fieldOutFrameSent
  /-- The port loses signal or alignment; `receiving` says whether a frame was being received (R160, R162). -/
  | linkDown (port : Port) (receiving : Bool)
  | linkUp (port : Port)
  | powerOn
  | resetInputAssert
  | resetInputRelease
  deriving DecidableEq, Repr

end Sys2Proof
end

