-- ==== Sys2Proof/WellFormed.lean ====
section
/-! DEFINITION. Well-formed commands: a frame's fields fit the widths of section 9.7 and pass the port's field checks (R161). -/

namespace Sys2Proof

/-- The request kind codes that 9.7.4 defines. -/
def definedKind (code : Nat) : Bool := decide (1 ≤ code ∧ code ≤ 0x12)

/-- A number fits two bytes. -/
def fits2 (n : Nat) : Bool := decide (n < 65536)

/-- A number fits one byte. -/
def fits1 (n : Nat) : Bool := decide (n < 256)

/-- The arguments of a request fit their fields, the record count of LOAD_ITEMS is 1..16, and a kind held as unknown
is not a defined one and fits a frame (R161, 9.7.4). -/
def Request.wellFormed : Request → Bool
  | .readStatus selector => fits1 selector
  | .option operation code _ => fits1 operation && fits1 code
  | .setWindow lane base limit => fits1 lane && fits2 base && fits2 limit
  | .loadBegin g count presence twin => fits2 g && fits2 count && fits1 presence && fits2 twin
  | .loadItems g offset records =>
    fits2 g && fits2 offset && decide (1 ≤ records.length ∧ records.length ≤ 16) &&
      records.all fun r => fits1 r.status
  | .loadEnd g => fits2 g
  | .loadAbort g => fits2 g
  | .unload g => fits2 g
  | .recount g => fits2 g
  | .closeSegment g => fits2 g
  | .querySegment g => fits2 g
  | .queryItem selector _ => fits1 selector
  | .unknown code args => fits1 code && !definedKind code && decide (args.length ≤ 238)
  | .identify => true
  | .setClock _ => true
  | .loadWeights _ => true
  | .readNotices => true
  | .restartCount => true
  | .reset => true

/-- A sighting fits its eleven bytes and passes the position check (R161, 9.7.2). -/
def WireSighting.wellFormed (w : WireSighting) : Bool :=
  decide (w.position < 32768) && (!w.positioned || decide (w.position ≤ 4095))

/-- The form of a command. A command that carries no frame is always well formed. -/
def Instr.wellFormed : Instr → Bool
  | .request _ req => req.wellFormed
  | .circ events =>
    decide (1 ≤ events.length ∧ events.length ≤ 8) && events.all fun e => fits1 e.kind && fits1 e.status
  | .laneMsg lane body => decide (lane < 8) && decide (body.length ≤ 239)
  | .laneUp lane => decide (lane < 8)
  | .laneDown lane => decide (lane < 8)
  | .enterFrame lane rel => decide (lane < 8) && decide (rel ≤ 2047)
  | .leaveFrame lane => decide (lane < 8)
  | .sightFrame lane sightings =>
    decide (lane < 8) && decide (1 ≤ sightings.length ∧ sightings.length ≤ 8) &&
      sightings.all WireSighting.wellFormed
  | .identify => true
  | .readStatus => true
  | .optionRead => true
  | .optionWrite => true
  | .optionSet => true
  | .optionClear => true
  | .setWindow => true
  | .setClock => true
  | .loadBegin => true
  | .loadItems => true
  | .loadEnd => true
  | .loadEndCheckDone => true
  | .loadAbort => true
  | .unload => true
  | .recount => true
  | .closeSegment => true
  | .querySegment => true
  | .queryItem => true
  | .queryItemHoldCleared => true
  | .loadWeights => true
  | .readNotices => true
  | .restartCount => true
  | .restartCountComplete => true
  | .reset => true
  | .resetComplete => true
  | .unknownRequest => true
  | .frameDiscard _ _ => true
  | .drainEnter => true
  | .drainSight => true
  | .drainLeave => true
  | .reevaluatePendingEnter => true
  | .dwellTimeout _ => true
  | .campaignClockTick => true
  | .settleFreeze => true
  | .settleEstimates => true
  | .settleResolution => true
  | .settleOrderChain => true
  | .settleResultWrite => true
  | .settleResume => true
  | .settleSweepItem => true
  | .settleSummary => true
  | .settleRelease => true
  | .deferredScan => true
  | .upstreamSelect => true
  | .replySent => true
  | .noticeSent => true
  | .findingSent => true
  | .fieldSelect => true
  | .controlSignalSent => true
  | .fieldOutFrameSent => true
  | .linkDown _ _ => true
  | .linkUp _ => true
  | .powerOn => true
  | .resetInputAssert => true
  | .resetInputRelease => true

end Sys2Proof
end

