-- ==== Sys2Proof/Config.lean ====
section
/-! DEFINITION. What the reference fixes once for the part (the capacities of section 6 of spec/00_scope.md and R178), and the
free values: constants without a body, of which nothing can be proved, for what the reference leaves open. -/

namespace Sys2Proof.Config

/-- Segments 0..2047 (R1). -/
abbrev segments : Nat := 2048
/-- Item Table slots (R3). -/
abbrev itemSlots : Nat := 65536
/-- Items per segment, at most (R1). -/
abbrev itemsPerSegment : Nat := 512
/-- Sighting Queue entries (R46). -/
abbrev queueEntries : Nat := 64
/-- Entries from which a Sighting Queue accepts no sighting (R48). -/
abbrev sightingLimit : Nat := 60
/-- Observation slots (R67). -/
abbrev poolSlots : Nat := 4096
/-- Observations per context, at most (R65). -/
abbrev contextCap : Nat := 640
/-- Findings Queue records (R147). -/
abbrev findingsCap : Nat := 256
/-- Records from which the Settle Engine does not push (R116, R148). -/
abbrev settleCeiling : Nat := 240
/-- Deferred Queue events (R132). -/
abbrev deferredCap : Nat := 32
/-- Deferred Queue events from which DEFER_HIGH is set (R132). -/
abbrev deferHighLevel : Nat := 24
/-- Request Queue slots (R171). -/
abbrev requestSlots : Nat := 8
/-- Field-Out Queue frames (R167). -/
abbrev fieldOutCap : Nat := 16
/-- The greatest value of a 32-bit tally (R29, R140, R152, R160, R167, R172). -/
abbrev tallyMax : Nat := 4294967295
/-- The greatest value of a sighting count and of a context's discard tallies (R65, R68). -/
abbrev countMax : Nat := 65535
/-- The greatest count number (R2). -/
abbrev countNumberMax : Nat := 255
/-- Identity codes of R178. -/
abbrev vendorCode : Nat := 0x0E15
abbrev partCode : Nat := 0x0048
abbrev revision : Nat := 3

/-- FREE VALUE (assumption 9). R8 has every reply of a Shelf List request that names a segment carry that segment's
state; for a segment number above 2047 there is no record, and the reference does not say what stands in the
reply. The code sent, or none: nothing constrains it. -/
opaque stateOfNoSegment : Nat → Option Byte

end Sys2Proof.Config
end

