-- ==== Sys2Proof/Machine/State.lean ====
section
/-! DEFINITION. The state of the KT-48 as plain data, block by block as section 2.2 of spec/00_scope.md lists the blocks, and
the state right after a full reset. The widths and ranges of the fields, with the rule that gives each, are listed
in INVENTORY.md under State. -/

namespace Sys2Proof.Machine

/-- A table by number: pairs of a key and a record, keys strictly rising. An unlisted key holds no record: an
UNLOADED segment (R1), a slot that is free or not yet written (R3), a tag code that is not indexed (R7). DESIGN CHOICE,
safe: log entry 24. -/
abbrev Table (α : Type) := List (Nat × α)

/-- The circulation statuses of R6. -/
inductive CircStatus where
  | onShelf | onLoan | inTransit | onHold | withdrawn | lost
  deriving DecidableEq, Repr

/-- The count results of R5. -/
inductive CountResult where
  | uncounted | inPlace | outOfOrder | unplaced | stray | missing | unverified | absentExpected | accounted
  deriving DecidableEq, Repr

/-- The close causes of R78. -/
inductive CloseCause where
  | leave | newEnter | dwellTimeout | laneDown | markerLost | request
  deriving DecidableEq, Repr

/-- The states a segment may be counted from (R65: the prior state of a context). -/
inductive Prior where
  | ready | settled
  deriving DecidableEq, Repr

/-- The eleven tallies of a settle, in the order of R120. -/
structure Tallies where
  expected : Nat := 0
  inPlace : Nat := 0
  outOfOrder : Nat := 0
  unplaced : Nat := 0
  missing : Nat := 0
  unverified : Nat := 0
  absentExpected : Nat := 0
  locatedElsewhere : Nat := 0
  stray : Nat := 0
  unknown : Nat := 0
  crossReads : Nat := 0
  deriving DecidableEq, Repr

/-! ### Shelf List Store (R1 to R7) -/

/-- The state of a segment that is not UNLOADED, with the fields R1 has present in that state alone: loaded so
far in LOADING, the context in COUNTING and SETTLING. -/
inductive Phase where
  | loading (loadedSoFar : Nat)
  | ready
  | counting (context : Fin 16)
  | settling (context : Fin 16)
  | settled
  deriving DecidableEq, Repr

/-- A segment record in any state but UNLOADED (R1). Last close cause and last tallies are present together. -/
structure Segment where
  phase : Phase
  twin : Option Nat
  firstItem : Nat
  itemCount : Nat
  countNumber : Nat
  last : Option (CloseCause × Tallies)
  deriving DecidableEq, Repr

/-- Where a settle last placed an item: located segment and best peak RSSI, present together (R4). -/
structure Placement where
  segment : Nat
  peak : Int
  deriving DecidableEq, Repr

/-- Result count number and result time, present together (R4). -/
structure ResultStamp where
  count : Nat
  time : Time
  deriving DecidableEq, Repr

/-- A written item record (R4). -/
structure Item where
  tag : Tag
  rank : Rank
  home : Nat
  status : CircStatus
  statusTime : Option Time
  result : CountResult
  placed : Option Placement
  estimate : Option Nat
  stamp : Option ResultStamp
  hold : Bool
  deriving DecidableEq, Repr

/-- The Shelf List Store. `tagIndex` is keyed by the tag code read as a number. The two free figures are those the
store keeps (R3). -/
structure Store where
  segments : Table Segment
  items : Table Item
  tagIndex : Table Nat
  freeCount : Nat
  largestFree : Nat
  deriving DecidableEq, Repr

/-! ### Lane Table and Sighting Queues (R23, R46) -/

/-- What an entry of a Sighting Queue carries beside its gap mark (R46). -/
inductive EntryKind where
  | enter (rel : Nat)
  | sight (tag : Tag) (rssi : Int) (position : Option Nat) (arrival : Time)
  | leave
  deriving DecidableEq, Repr

/-- An entry of a Sighting Queue with its gap mark (R46, R51). -/
structure Entry where
  kind : EntryKind
  gap : Bool
  deriving DecidableEq, Repr

/-- A lane's state with the fields R23 has present in that state alone. `dwell` is the dwell timer: stopped
(none), or running with that many ticks to expiry; at 0 the timer has expired and DWELL_TIMEOUT is due. -/
inductive LaneMode where
  | detached
  | idle
  | inSegment (segment : Nat) (dwell : Option Nat)
  | inVoid
  | waiting (rel : Nat) (gap : Bool) (reevaluate : Bool)
  deriving DecidableEq, Repr

/-- A lane record with its Sighting Queue (R23, R46). Enabled and dwell setting are option words (R27, R39). -/
structure Lane where
  mode : LaneMode := .detached
  base : Nat := 0
  limit : Nat := 2048
  queue : List Entry := []
  paused : Bool := false
  overrun : Bool := false
  voidTally : Nat := 0
  dropTally : Nat := 0
  deriving DecidableEq, Repr

/-- The eight lanes and the admission arbiter's next-lane pointer (R30). -/
structure LaneTable where
  recs : Vector Lane 8
  next : Fin 8
  deriving DecidableEq, Repr

/-! ### Count Context Pool (R65 to R68) -/

/-- An observation (R68). -/
structure Observation where
  tag : Tag
  item : Option Nat
  count : Nat
  w : Nat
  p : Nat
  peak : Int
  firstTime : Time
  lastTime : Time
  deriving DecidableEq, Repr

/-- OPEN with its owner lane, or CLOSED with its closing lane and close cause (R65, R66). -/
inductive ContextPhase where
  | opened (owner : Fin 8)
  | closed (closing : Fin 8) (cause : CloseCause)
  deriving DecidableEq, Repr

/-- A count context in use (R65); a FREE context holds no field. -/
structure Context where
  segment : Nat
  phase : ContextPhase
  prior : Prior
  openTime : Time
  truncated : Bool
  capDiscards : Nat
  poolDiscards : Nat
  observations : List Observation
  deriving DecidableEq, Repr

/-- The Count Context Pool and the Observation Pool's free-slot count (R65, R67). -/
structure ContextPool where
  contexts : Vector (Option Context) 16
  freeSlots : Nat
  deriving DecidableEq, Repr

/-! ### Findings Queue (R143, R147) -/

/-- The 17 kinds of finding (R144). -/
inductive FindingKind where
  | missing | unverified | outOfOrder | stray | unknownTag | statusConflict | segmentSettled | revised
  | firstSight | rangeRefused | claimConflict | segmentNotReady | laneOverrun | laneMarkerLost
  | contextFull | poolExhausted | circDropped
  deriving DecidableEq, Repr

/-- The kinds of circulation event (R126). -/
inductive EventKind where
  | checkout | checkin | reshelve | setStatus
  deriving DecidableEq, Repr

/-- A finding record: kind, time, two flags, and optional fields (R143). -/
structure Finding where
  kind : FindingKind
  time : Time
  conflict : Bool := false
  truncated : Bool := false
  segment : Option Nat := none
  count : Option Nat := none
  lane : Option (Fin 8) := none
  item : Option Nat := none
  tag : Option Tag := none
  rank : Option Rank := none
  status : Option CircStatus := none
  estimate : Option Nat := none
  peak : Option Int := none
  reference : Option Nat := none
  follow : Option Nat := none
  oldResult : Option CountResult := none
  newResult : Option CountResult := none
  cause : Option CloseCause := none
  tallies : Option Tallies := none
  event : Option EventKind := none
  deriving DecidableEq, Repr

/-- The Findings Queue, oldest first, the FINDQ_LOST condition and the findings-lost tally (R147, R152). -/
structure FindingsQueue where
  records : List Finding
  lost : Bool
  lostTally : Nat
  deriving DecidableEq, Repr

/-! ### Settle Engine (R100 to R102) -/

/-- What resolution and the order chain make of a placed observation (R105, R110, R111). `candidate` is the
outcome of resolution; the order chain replaces it by `inPlace` or `outOfOrder`. -/
inductive Place where
  | candidate
  | inPlace
  | outOfOrder (follow : Option Nat)
  | unplaced
  | stray
  deriving DecidableEq, Repr

/-- A relocated item's count result and located segment as they stood before this settle (R106). -/
structure Moved where
  oldResult : CountResult
  oldSegment : Nat
  deriving DecidableEq, Repr

/-- The outcome of resolution for one observation (R105). -/
inductive Verdict where
  | unknown
  | crossRead
  | placed (item : Nat) (place : Place) (moved : Option Moved)
  deriving DecidableEq, Repr

/-- An observation with its estimate (R104) and its outcome (R105). -/
structure Ruling where
  observation : Observation
  estimate : Option Nat
  verdict : Verdict
  deriving DecidableEq, Repr

/-- The stage a settle has reached, named by what the engine does next, with what that step reads (R102). -/
inductive Stage where
  | estimates
  | resolution (estimates : List (Option Nat))
  | orderChain (rulings : List Ruling)
  | results (rulings todo : List Ruling)
  | sweep (rulings : List Ruling) (todo : List Nat)
  | summary (rulings : List Ruling)
  | release
  deriving DecidableEq, Repr

/-- What the engine holds for its settle (R102): the segment in settle, the captured XREAD and REVISE, the stage
with its working results, the tallies gathered so far, and at most one finding kept while STALLED. -/
structure Settle where
  segment : Nat
  xread : Int
  revise : Int
  stage : Stage
  tallies : Tallies
  kept : Option Finding
  deriving DecidableEq, Repr

/-- The Settle Engine (R101). IDLE is `idle`. RUNNING is `taking` (about to freeze the head of the Settle Queue),
`settling` with no finding kept, or `scanning` (released, with the Deferred Queue scan to finish, R122). STALLED
is `settling` with a finding kept. -/
inductive Engine where
  | idle
  | taking
  | settling (work : Settle)
  | scanning
  deriving DecidableEq, Repr

/-- The Settle Queue, oldest first, and the engine (R100, R101). -/
structure SettleUnit where
  queue : List Nat
  engine : Engine
  deriving DecidableEq, Repr

/-! ### Circulation Unit (R132, R140) -/

/-- An entry of the Deferred Queue (R132); the status value is present for SET_STATUS only. -/
structure CircEvent where
  kind : EventKind
  tag : Tag
  status : Option CircStatus
  arrival : Time
  deriving DecidableEq, Repr

/-- The Deferred Queue, oldest first, and the four tallies (R132, R140). -/
structure CirculationUnit where
  deferred : List CircEvent
  applied : Nat
  deferredTally : Nat
  ignored : Nat
  dropped : Nat
  deriving DecidableEq, Repr

/-! ### Management Unit: replies and the Request Queue (R171 to R174) -/

/-- The reply status codes of R174. -/
inductive Status where
  | ok | busy | badArgument | noSpace | duplicateTag | wrongState | countMismatch | orderError | sequenceError
  | notFound | unknownRequest
  deriving DecidableEq, Repr

/-- READ_STATUS section 0 (R179). -/
structure DeviceFigures where
  clock : Time
  clockSet : Bool
  fieldUp : Bool
  trunkUp : Bool
  fieldDiscards : Nat
  trunkDiscards : Nat
  fieldOutDrops : Nat
  fieldOutLength : Nat
  pendingPause : BitVec 8
  pendingResume : BitVec 8
  requestDiscards : Nat
  slotsFree : Nat
  slotsPending : Nat
  slotsInService : Nat
  slotsReplyReady : Nat
  slotsSending : Nat
  conditions : Conditions
  latches : Conditions
  deriving DecidableEq, Repr

/-- One lane's figures in READ_STATUS section 1 (R64, R179); `state` is the code of 9.7.5. -/
structure LaneFigures where
  state : Nat
  base : Nat
  limit : Nat
  current : Option Nat
  voidTally : Nat
  dropTally : Nat
  entries : Nat
  sightings : Nat
  paused : Bool
  overrun : Bool
  deriving DecidableEq, Repr

/-- READ_STATUS sections 2 and 3 (R84, R179): `contexts` are those in use, each with its number. -/
structure PoolFigures where
  freeSlots : Nat
  free : Nat
  opened : Nat
  closed : Nat
  contexts : List (Fin 16 × Context)
  deriving DecidableEq, Repr

/-- READ_STATUS section 4 (R179); `engine` is the code of 9.7.5. -/
structure SettleFigures where
  engine : Nat
  segment : Option Nat
  queue : List Nat
  findings : Nat
  lostTally : Nat
  findqHigh : Bool
  findqLost : Bool
  deriving DecidableEq, Repr

/-- READ_STATUS section 5 (R179). -/
structure StoreFigures where
  freeCount : Nat
  largestFree : Nat
  deferred : Nat
  applied : Nat
  deferredTally : Nat
  ignored : Nat
  dropped : Nat
  deriving DecidableEq, Repr

/-- The result fields of a reply, beside the segment's state of R8. -/
inductive ReplyBody where
  | none
  | identity
  | resetIdentity
  | device (f : DeviceFigures)
  | lanes (f : List LaneFigures)
  | pool (f : PoolFigures)
  | settle (f : SettleFigures)
  | store (f : StoreFigures)
  | knots (k : Vector (BitVec 16) 17)
  | option (code : Nat) (value : Int)
  | window (base limit : Nat)
  | clock (value : Time) (set : Bool)
  | firstItem (index : Nat)
  | largestFree (slots : Nat)
  | loadedSoFar (count : Nat)
  | offset (at_ : Nat)
  | itemCount (count : Nat)
  | duplicate (at_ : Nat) (indexed : Option Nat)
  | segment (rec : Option Segment)
  | item (index : Nat) (rec : Item)
  | closed (context : Fin 16) (observations : Nat) (truncated : Bool) (state : Nat)
  | notices (conditions latches : Conditions)
  deriving DecidableEq, Repr

/-- A reply (R174): request tag and kind code, status, and result fields. `segState` is the code of the named
segment's state, which every reply of a Shelf List request that names a segment carries first (R8). -/
structure Reply where
  tag : Byte
  kind : Nat
  status : Status
  segState : Option Byte
  body : ReplyBody
  deriving DecidableEq, Repr

/-- What an IN_SERVICE request is doing (R173). `atOnce` is a request that takes no time, within the step that
serves it. `holdCleared` keeps the record as the settle's release left it, for the reply of R18. -/
inductive Work where
  | atOnce
  | duplicateCheck
  | holdWait (item : Nat)
  | holdCleared (item : Nat) (rec : Item)
  | restart
  | reset
  deriving DecidableEq, Repr

/-- The state of an occupied slot of the Request Queue (R171). -/
inductive SlotState where
  | pending
  | inService (work : Work)
  | replyReady (reply : Reply)
  | sending (reply : Reply)
  deriving DecidableEq, Repr

/-- An occupied slot: request tag, kind and arguments, arrival time and slot state (R169, R171). -/
structure Slot where
  tag : Byte
  request : Request
  arrival : Time
  state : SlotState
  deriving DecidableEq, Repr

/-- The occupied slots in order of arrival, and the request-discard tally (R171, R172). The other slots of the
eight are FREE. -/
structure RequestQueue where
  slots : List Slot
  discards : Nat
  deriving DecidableEq, Repr

/-- The option words of R175. -/
structure Options where
  general : BitVec 3 := 6
  laneEnable : BitVec 8 := 255
  laneAF : Nat := 48
  laneAE : Nat := 16
  dwell : Vector Nat 8 := Vector.replicate 8 3000
  fqHigh : Nat := 192
  fqResume : Nat := 200
  xread : Int := -58
  revise : Int := 6
  poolLow : Nat := 256
  noticeRise : Conditions := BitVec.allOnes 21
  noticeFall : Conditions := 0
  deriving DecidableEq, Repr

/-- The Campaign Clock and its set flag (R180). -/
structure Clock where
  value : Time
  set : Bool
  deriving DecidableEq, Repr

/-- The latches, and whether a NOTICE is waiting (R183, R184). -/
structure Notices where
  latches : Conditions
  waiting : Bool
  deriving DecidableEq, Repr

/-! ### The ports (R158 to R170) -/

/-- A control signal (R166). -/
inductive Signal where
  | pause
  | resume
  deriving DecidableEq, Repr

/-- A CUE (R121). -/
structure Cue where
  lane : Fin 8
  segment : Nat
  count : Nat
  tallies : Tallies
  tags : List Tag
  deriving DecidableEq, Repr

/-- A frame of the Field-Out Queue (R167). -/
inductive OutFrame where
  | cue (c : Cue)
  | laneMsg (lane : Nat) (body : List Byte)
  deriving DecidableEq, Repr

/-- What the Field Port is sending: a control signal taken from its lane, or the head of the Field-Out Queue. -/
inductive FieldSending where
  | signal (lane : Fin 8) (sig : Signal)
  | queued
  deriving DecidableEq, Repr

/-- A frame in progress on the Field Link, with its bytes (R158). -/
structure FieldTx where
  what : FieldSending
  frame : List Byte
  deriving DecidableEq, Repr

/-- What the Trunk Port is sending: the reply of the SENDING slot, the NOTICE with the conditions and latches it
carries (R165), or the head of the Findings Queue. -/
inductive TrunkSending where
  | reply
  | notice (conditions latches : Conditions)
  | finding
  deriving DecidableEq, Repr

/-- A frame in progress on the Trunk Link, with its bytes (R158). -/
structure TrunkTx where
  what : TrunkSending
  frame : List Byte
  deriving DecidableEq, Repr

/-- The Field Port. `signal` is the receiver's signal and alignment, an input; `up` is the link state (R162). -/
structure FieldPort where
  signal : Bool
  up : Bool
  discards : Nat
  signals : Vector (Option Signal) 8
  controlPtr : Fin 8
  out : List OutFrame
  outDrops : Nat
  tx : Option FieldTx
  deriving DecidableEq, Repr

/-- The Trunk Port, as the Field Port. -/
structure TrunkPort where
  signal : Bool
  up : Bool
  discards : Nat
  tx : Option TrunkTx
  deriving DecidableEq, Repr

/-! ### The whole part -/

/-- The state of the part, one field per block, and the queue of commands that wait. -/
structure State where
  field : FieldPort
  trunk : TrunkPort
  lanes : LaneTable
  store : Store
  pool : ContextPool
  weights : Vector (BitVec 16) 17
  settle : SettleUnit
  circ : CirculationUnit
  findq : FindingsQueue
  requests : RequestQueue
  opts : Options
  clock : Clock
  notices : Notices
  /-- The reset input is asserted (R170, R180). -/
  resetPin : Bool
  /-- Commands that wait, first in, first out (the model's own field; log entry 1). -/
  pending : List Instr
  deriving DecidableEq, Repr

/-- Why a step stops the part. The reference names no such event, so the type is empty and no command faults. -/
inductive Fault where
  deriving DecidableEq, Repr

/-- Why a command is refused. -/
inductive Refusal where
  /-- The command has no meaning in this model. Raised by no arm: every row of the table is modelled. Safe. -/
  | notModelled (mnemonic : String)
  deriving DecidableEq, Repr

/-- The default knots of R88. -/
def defaultKnots : Vector (BitVec 16) 17 :=
  #v[1, 2, 4, 7, 12, 20, 32, 50, 80, 128, 200, 320, 512, 800, 1280, 2048, 3200]

/-- The part right after a full reset (R1, R22, R23, R45, R63, R86, R88, R100, R101, R142, R156, R170, R171,
R175, R180, R183, R184), with both receivers without signal, the reset input not asserted and no command waiting
(log entries 1 and 3). -/
def State.reset : State where
  field := { signal := false, up := false, discards := 0, signals := Vector.replicate 8 none, controlPtr := 0,
             out := [], outDrops := 0, tx := none }
  trunk := { signal := false, up := false, discards := 0, tx := none }
  lanes := { recs := Vector.replicate 8 {}, next := 0 }
  store := { segments := [], items := [], tagIndex := [], freeCount := Config.itemSlots,
             largestFree := Config.itemSlots }
  pool := { contexts := Vector.replicate 16 none, freeSlots := Config.poolSlots }
  weights := defaultKnots
  settle := { queue := [], engine := .idle }
  circ := { deferred := [], applied := 0, deferredTally := 0, ignored := 0, dropped := 0 }
  findq := { records := [], lost := false, lostTally := 0 }
  requests := { slots := [], discards := 0 }
  opts := {}
  clock := { value := 0, set := false }
  notices := { latches := 0, waiting := false }
  resetPin := false
  pending := []

end Sys2Proof.Machine
end

