-- ==== Sys2Proof/Machine/Operands.lean ====
section
/-! DEFINITION. Values: clamping, saturating tallies, the weight of a sighting and the position estimate (chapter 5), the
codes of 9.7.4 and 9.7.5, and the reading and writing of option words (R175, R176). -/

namespace Sys2Proof.Machine

/-- A tally that rises by n and holds at `cap` once it has reached it (R29, R65, R140, R152, R160, R167, R172). -/
def satAdd (cap x n : Nat) : Nat := min cap (x + n)

/-- A 32-bit tally raised by n. -/
def tallyAdd (x n : Nat) : Nat := satAdd Config.tallyMax x n

/-- A number clamped to lo..hi: replaced by the nearest bound (section 4 of spec/00_scope.md). -/
def clampInt (lo hi v : Int) : Int := if v < lo then lo else if hi < v then hi else v

/-- `clampInt` for a word kept as a natural number. -/
def clampNat (lo hi : Nat) (v : Int) : Nat := (clampInt lo hi v).toNat

/-! ### Weights and positions -/

/-- The RSSI clamp of R87, from the signed byte received. -/
def clampRssi (rssi : BitVec 8) : Int := clampInt (-100) (-20) rssi.toInt

/-- Knot k of a Weight Table (R88), for k in 0..16. -/
def knot (knots : Vector (BitVec 16) 17) (k : Nat) : Nat := (knots.toList.getD k 0).toNat

/-- x / 5 rounded to the nearest whole number, for either sign (R89 step 4): the floor of (2x + 5) / 10. A half does
not arise. -/
def roundFifth (x : Int) : Int := (2 * x + 5) / 10

/-- The weight of a sighting from its clamped RSSI (R89). -/
def weight (knots : Vector (BitVec 16) 17) (rssi : Int) : Nat :=
  let o := (rssi + 100).toNat
  let k := o / 5
  let r := o % 5
  if 16 ≤ k then knot knots 16
  else
    let d : Int := (knot knots (k + 1) : Int) - (knot knots k : Int)
    ((knot knots k : Int) + roundFifth (d * r)).toNat

/-- What a sighting adds to W and P (R94): nothing without a position, or with a weight of 0. -/
def contribution (knots : Vector (BitVec 16) 17) (rssi : Int) (position : Option Nat) : Nat × Nat :=
  match position with
  | none => (0, 0)
  | some p => (weight knots rssi, weight knots rssi * p)

/-- The position estimate of R97: unknown for W = 0, else P / W rounded to the nearest millimetre, halves up. -/
def positionEstimate (w p : Nat) : Option Nat :=
  if w = 0 then none else some ((2 * p + w) / (2 * w))

/-! ### Codes (9.7.4, 9.7.5) -/

/-- The request kind codes of 9.7.4. -/
def requestCode (r : Request) : Nat :=
  match r with
  | .identify => 0x01
  | .readStatus _ => 0x02
  | .option _ _ _ => 0x03
  | .setWindow _ _ _ => 0x04
  | .setClock _ => 0x05
  | .loadBegin _ _ _ _ => 0x06
  | .loadItems _ _ _ => 0x07
  | .loadEnd _ => 0x08
  | .loadAbort _ => 0x09
  | .unload _ => 0x0A
  | .recount _ => 0x0B
  | .closeSegment _ => 0x0C
  | .querySegment _ => 0x0D
  | .queryItem _ _ => 0x0E
  | .loadWeights _ => 0x0F
  | .readNotices => 0x10
  | .restartCount => 0x11
  | .reset => 0x12
  | .unknown code _ => code

/-- The reply status codes. -/
def statusCode : Status → Nat
  | .ok => 0
  | .busy => 1
  | .badArgument => 2
  | .noSpace => 3
  | .duplicateTag => 4
  | .wrongState => 5
  | .countMismatch => 6
  | .orderError => 7
  | .sequenceError => 8
  | .notFound => 9
  | .unknownRequest => 10

/-- The finding kind codes. -/
def findingCode : FindingKind → Nat
  | .missing => 1
  | .unverified => 2
  | .outOfOrder => 3
  | .stray => 4
  | .unknownTag => 5
  | .statusConflict => 6
  | .segmentSettled => 7
  | .revised => 8
  | .firstSight => 9
  | .rangeRefused => 10
  | .claimConflict => 11
  | .segmentNotReady => 12
  | .laneOverrun => 13
  | .laneMarkerLost => 14
  | .contextFull => 15
  | .poolExhausted => 16
  | .circDropped => 17

/-- The count result codes. -/
def resultCode : CountResult → Nat
  | .uncounted => 0
  | .inPlace => 1
  | .outOfOrder => 2
  | .unplaced => 3
  | .stray => 4
  | .missing => 5
  | .unverified => 6
  | .absentExpected => 7
  | .accounted => 8

/-- The circulation status codes. -/
def circCode : CircStatus → Nat
  | .onShelf => 0
  | .onLoan => 1
  | .inTransit => 2
  | .onHold => 3
  | .withdrawn => 4
  | .lost => 5

/-- The circulation status a code stands for; none outside the six (R11, R127). -/
def circOfCode : Nat → Option CircStatus
  | 0 => some .onShelf
  | 1 => some .onLoan
  | 2 => some .inTransit
  | 3 => some .onHold
  | 4 => some .withdrawn
  | 5 => some .lost
  | _ => none

/-- The circulation event kind codes. -/
def eventCode : EventKind → Nat
  | .checkout => 1
  | .checkin => 2
  | .reshelve => 3
  | .setStatus => 4

/-- The event kind a code stands for; none outside the four (R127). -/
def eventOfCode : Nat → Option EventKind
  | 1 => some .checkout
  | 2 => some .checkin
  | 3 => some .reshelve
  | 4 => some .setStatus
  | _ => none

/-- The close cause codes. -/
def causeCode : CloseCause → Nat
  | .leave => 0
  | .newEnter => 1
  | .dwellTimeout => 2
  | .laneDown => 3
  | .markerLost => 4
  | .request => 5

/-- The segment state codes, from the record or its absence (UNLOADED). -/
def segmentCode : Option Segment → Nat
  | none => 0
  | some g =>
    match g.phase with
    | .loading _ => 1
    | .ready => 2
    | .counting _ => 3
    | .settling _ => 4
    | .settled => 5

/-- The lane state codes. -/
def laneCode : LaneMode → Nat
  | .detached => 0
  | .idle => 1
  | .inSegment _ _ => 2
  | .inVoid => 3
  | .waiting _ _ _ => 4

/-- The prior states are segment states. -/
def priorCode : Prior → Nat
  | .ready => 2
  | .settled => 5

/-- The context state codes. -/
def contextCode : Option Context → Nat
  | none => 0
  | some c =>
    match c.phase with
    | .opened _ => 1
    | .closed _ _ => 2

/-- The engine state codes: IDLE, RUNNING, STALLED (R101). -/
def engineCode : Engine → Nat
  | .idle => 0
  | .taking => 1
  | .scanning => 1
  | .settling w => if w.kept.isSome then 2 else 1

/-! ### Option words (R175, R176) -/

/-- The option words by code (R175). -/
inductive OptionWord where
  | general
  | laneEnable
  | laneAF
  | laneAE
  | dwell (lane : Fin 8)
  | fqHigh
  | fqResume
  | xread
  | revise
  | poolLow
  | noticeRise
  | noticeFall
  deriving DecidableEq, Repr

/-- The word a code names; none above 0x12 (R175, R176). -/
def optionWord (code : Nat) : Option OptionWord :=
  if code = 0x00 then some .general
  else if code = 0x01 then some .laneEnable
  else if code = 0x02 then some .laneAF
  else if code = 0x03 then some .laneAE
  else if h : 0x04 ≤ code ∧ code ≤ 0x0B then some (.dwell ⟨code - 4, by omega⟩)
  else if code = 0x0C then some .fqHigh
  else if code = 0x0D then some .fqResume
  else if code = 0x0E then some .xread
  else if code = 0x0F then some .revise
  else if code = 0x10 then some .poolLow
  else if code = 0x11 then some .noticeRise
  else if code = 0x12 then some .noticeFall
  else none

/-- The stored value of a word, as a signed number. -/
def readOption (o : Options) : OptionWord → Int
  | .general => o.general.toNat
  | .laneEnable => o.laneEnable.toNat
  | .laneAF => o.laneAF
  | .laneAE => o.laneAE
  | .dwell l => o.dwell[l.val]
  | .fqHigh => o.fqHigh
  | .fqResume => o.fqResume
  | .xread => o.xread
  | .revise => o.revise
  | .poolLow => o.poolLow
  | .noticeRise => o.noticeRise.toNat
  | .noticeFall => o.noticeFall.toNat

/-- The words with a computed value stored in one of them (R176): a numeric word is clamped to its range, the bits of
a bit word beyond its width are discarded, and a LANE_AF stored at or below AE lowers AE to AF − 1 (R57). -/
def storeOption (o : Options) (w : OptionWord) (v : Int) : Options :=
  match w with
  | .general => { o with general := BitVec.ofInt 3 v }
  | .laneEnable => { o with laneEnable := BitVec.ofInt 8 v }
  | .laneAF =>
    let af := clampNat 2 60 v
    { o with laneAF := af, laneAE := if af ≤ o.laneAE then af - 1 else o.laneAE }
  | .laneAE => { o with laneAE := clampNat 0 (o.laneAF - 1) v }
  | .dwell l => { o with dwell := o.dwell.set l.val (clampNat 0 60000 v) l.isLt }
  | .fqHigh => { o with fqHigh := clampNat 1 256 v }
  | .fqResume => { o with fqResume := clampNat 0 239 v }
  | .xread => { o with xread := clampInt (-100) (-20) v }
  | .revise => { o with revise := clampInt 0 30 v }
  | .poolLow => { o with poolLow := clampNat 0 4096 v }
  | .noticeRise => { o with noticeRise := BitVec.ofInt 21 v }
  | .noticeFall => { o with noticeFall := BitVec.ofInt 21 v }

/-- SET: the stored value with every bit set that is set in the value carried, on the 32-bit two's complement form
(R176). -/
def setBits (stored : Int) (carried : BitVec 32) : Int := (BitVec.ofInt 32 stored ||| carried).toInt

/-- CLEAR: the stored value with every bit cleared that is set in the value carried (R176). -/
def clearBits (stored : Int) (carried : BitVec 32) : Int := (BitVec.ofInt 32 stored &&& ~~~carried).toInt

/-- The named bits of GENERAL (R175). -/
def firstSightEmit (o : Options) : Bool := o.general.getLsbD 0
def recountByLane (o : Options) : Bool := o.general.getLsbD 1
def cueEnable (o : Options) : Bool := o.general.getLsbD 2

/-- A lane's enabled bit (R27). -/
def laneEnabled (o : Options) (l : Fin 8) : Bool := o.laneEnable.getLsbD l.val

/-- A lane's dwell timer at its start: stopped for a dwell setting of 0 (R39). -/
def dwellStart (o : Options) (l : Fin 8) : Option Nat :=
  if o.dwell[l.val] = 0 then none else some o.dwell[l.val]

/-- A lane's dwell timer at a restart (R39): under a dwell setting of 0 a timer does not start again, so a running one runs
on to its expiry, and one whose expiry is due stays due (DEDUCED, log entry 27). -/
def dwellRestart (o : Options) (l : Fin 8) (timer : Option Nat) : Option Nat :=
  if o.dwell[l.val] = 0 then timer else some o.dwell[l.val]

/-- A lane's state with its dwell timer restarted, if it is IN_SEGMENT (R39). -/
def restartDwell (o : Options) (l : Fin 8) (m : LaneMode) : LaneMode :=
  match m with
  | .inSegment g timer => .inSegment g (dwellRestart o l timer)
  | m => m

end Sys2Proof.Machine
end

