-- ==== Sys2Proof/Machine/Flags.lean ====
section
/-! DEFINITION. The 21 live conditions, their edges, and the latches and waiting NOTICE that edges set (R182 to R184). -/

namespace Sys2Proof.Machine

/-- The number whose binary digits, least significant first, are the bits given. -/
def bitsToNat : List Bool → Nat
  | [] => 0
  | b :: bs => b.toNat + 2 * bitsToNat bs

/-- The engine is STALLED: a finding is kept (R101, R116). -/
def stalled (e : Engine) : Bool :=
  match e with
  | .settling w => w.kept.isSome
  | _ => false

/-- LANE_ATTACHED: the lane is not DETACHED (R25, R182). -/
def attached (r : Lane) : Bool := decide (r.mode ≠ .detached)

/-- FINDQ_HIGH (R151). -/
def findqHigh (s : State) : Bool := decide (s.opts.fqHigh ≤ s.findq.records.length)

/-- POOL_LOW (R67). -/
def poolLow (s : State) : Bool := decide (s.pool.freeSlots < s.opts.poolLow)

/-- DEFER_HIGH (R132). -/
def deferHigh (s : State) : Bool := decide (Config.deferHighLevel ≤ s.circ.deferred.length)

/-- SETTLE_STALLED (R101, R180). -/
def settleStalled (s : State) : Bool := stalled s.settle.engine || !s.clock.set

/-- The live conditions as bits, condition n at place n (R182). -/
def conditionBits (s : State) : List Bool :=
  s.lanes.recs.toList.map attached ++ s.lanes.recs.toList.map (·.paused) ++
    [findqHigh s, s.findq.lost, poolLow s, deferHigh s, settleStalled s]

/-- The 21 live conditions (R182). -/
def liveConditions (s : State) : Conditions := BitVec.ofNat 21 (bitsToNat (conditionBits s))

/-- The latches after a change of the conditions from `old` to `new` (R183): an edge whose enable is set sets its
latch. -/
def latchEdges (o : Options) (latches old new : Conditions) : Conditions :=
  latches ||| ((new &&& ~~~old) &&& o.noticeRise) ||| ((old &&& ~~~new) &&& o.noticeFall)

/-- s after a change that began with the conditions `old`: the edges set their latches, and a latch that went from
clear to set makes a NOTICE wait (R183, R184). -/
def noteEdges (old : Conditions) (s : State) : State :=
  let latched := latchEdges s.opts s.notices.latches old (liveConditions s)
  { s with notices := { latches := latched,
                        waiting := s.notices.waiting || decide (latched ≠ s.notices.latches) } }

/-- One change of the state, with the edges it makes. -/
def withEdges (s : State) (change : State → State) : State := noteEdges (liveConditions s) (change s)

end Sys2Proof.Machine
end

