-- ==== Sys2Proof/Machine/Ops.lean ====
section
/-! DEFINITION. The named operations every command is written over: tables, lane and segment records, the Findings Queue,
control signals and the Field-Out Queue, the Sighting Queue thresholds, the Request Queue, and what holds the
part in reset. -/

namespace Sys2Proof.Machine

/-! ### Tables -/

/-- The record of a key, if one is listed. -/
def tget {α : Type} : Table α → Nat → Option α
  | [], _ => none
  | (k, v) :: t, n => if n = k then some v else tget t n

/-- A record written at a key, in the table's order. -/
def tput {α : Type} : Table α → Nat → α → Table α
  | [], n, x => [(n, x)]
  | (k, v) :: t, n, x =>
    if n < k then (n, x) :: (k, v) :: t
    else if n = k then (n, x) :: t
    else (k, v) :: tput t n x

/-- The records whose key and contents pass a test. -/
def tfilter {α : Type} (keep : Nat → α → Bool) (t : Table α) : Table α :=
  t.filter fun e => keep e.1 e.2

/-- Every record changed in place. -/
def tmap {α : Type} (f : Nat → α → α) (t : Table α) : Table α :=
  t.map fun e => (e.1, f e.1 e.2)

/-- A table without one key. -/
def terase {α : Type} (t : Table α) (n : Nat) : Table α := tfilter (fun k _ => k != n) t

/-- The form of a table: keys strictly rising. -/
abbrev Table.wf {α : Type} (t : Table α) : Prop := (t.map Prod.fst).Pairwise (· < ·)

/-- x put into an ordered list, before the entries it compares equal with. -/
def insertBy {α : Type} (before : α → α → Bool) (x : α) : List α → List α
  | [] => [x]
  | y :: ys => if before y x then y :: insertBy before x ys else x :: y :: ys

/-- A list in the order of `before`, a strict order; entries that compare equal keep their order. -/
def sortBy {α : Type} (before : α → α → Bool) : List α → List α
  | [] => []
  | x :: xs => insertBy before x (sortBy before xs)

/-! ### Lanes -/

/-- A lane record. -/
def State.lane (s : State) (l : Fin 8) : Lane := s.lanes.recs[l.val]

/-- A lane record replaced. -/
def State.setLane (s : State) (l : Fin 8) (r : Lane) : State :=
  { s with lanes := { s.lanes with recs := s.lanes.recs.set l.val r l.isLt } }

/-- A lane's state replaced. LANE_ATTACHED is evaluated (R25). -/
def State.setMode (s : State) (l : Fin 8) (m : LaneMode) : State :=
  withEdges s fun s => s.setLane l { s.lane l with mode := m }

/-- The eight lanes in increasing lane number. -/
def lanesInOrder : List (Fin 8) := [0, 1, 2, 3, 4, 5, 6, 7]

/-- The first lane that passes a test, from a pointer on, wrapping from 7 to 0 (R30, R168). -/
def firstFrom (start : Fin 8) (test : Fin 8 → Bool) : Option (Fin 8) :=
  (lanesInOrder.map fun k => start + k).find? test

/-- The drop tally of a lane raised by n (R29). -/
def raiseDrop (s : State) (l : Fin 8) (n : Nat) : State :=
  s.setLane l { s.lane l with dropTally := tallyAdd (s.lane l).dropTally n }

/-- The lane's current segment, present in IN_SEGMENT alone (R23). -/
def currentSegment (m : LaneMode) : Option Nat :=
  match m with
  | .inSegment g _ => some g
  | _ => none

/-- WAITING (R23). -/
def isWaiting (m : LaneMode) : Bool :=
  match m with
  | .waiting _ _ _ => true
  | _ => false

/-- A lane record with its re-evaluation flag set, if the lane is WAITING (R34). -/
def flagLane (r : Lane) : Lane :=
  match r.mode with
  | .waiting rel gap _ => { r with mode := .waiting rel gap true }
  | _ => r

/-- The re-evaluation flag of every WAITING lane is set (R34). -/
def flagWaiting (s : State) : State :=
  { s with lanes := { s.lanes with recs := s.lanes.recs.map flagLane } }

/-! ### Segments, items, contexts -/

/-- The record of a segment; none is UNLOADED (R1). -/
def State.segment (s : State) (g : Nat) : Option Segment := tget s.store.segments g

/-- A segment record written. -/
def State.setSegment (s : State) (g : Nat) (r : Segment) : State :=
  { s with store := { s.store with segments := tput s.store.segments g r } }

/-- A segment's phase replaced, if it is not UNLOADED. -/
def State.setPhase (s : State) (g : Nat) (p : Phase) : State :=
  match s.segment g with
  | some r => s.setSegment g { r with phase := p }
  | none => s

/-- The written item record in a slot. -/
def State.item (s : State) (i : Nat) : Option Item := tget s.store.items i

/-- An item record written. -/
def State.setItem (s : State) (i : Nat) (r : Item) : State :=
  { s with store := { s.store with items := tput s.store.items i r } }

/-- The Tag Index lookup (R7): the item index, or no item. -/
def State.lookup (s : State) (t : Tag) : Option Nat := tget s.store.tagIndex t.toNat

/-- A count context. -/
def State.context (s : State) (c : Fin 16) : Option Context := s.pool.contexts[c.val]

/-- A count context replaced. -/
def State.setContext (s : State) (c : Fin 16) (r : Option Context) : State :=
  { s with pool := { s.pool with contexts := s.pool.contexts.set c.val r c.isLt } }

/-- The sixteen contexts in increasing number. -/
def contextsInOrder : List (Fin 16) := [0, 1, 2, 3, 4, 5, 6, 7, 8, 9, 10, 11, 12, 13, 14, 15]

/-- The lowest-numbered FREE context (R69). -/
def freeContext (s : State) : Option (Fin 16) :=
  contextsInOrder.find? fun c => (s.context c).isNone

/-- Some segment is COUNTING or SETTLING (R92, R181). -/
def countingOrSettling (s : State) : Bool :=
  s.store.segments.any fun e =>
    match e.2.phase with
    | .counting _ => true
    | .settling _ => true
    | _ => false

/-- The count number a segment carries once a settle completes (R2, R112). -/
def nextCount (n : Nat) : Nat := satAdd Config.countNumberMax n 1

/-! ### Findings Queue -/

/-- A push by a producer other than the Settle Engine (R147): taken below 256 records, otherwise discarded with the
findings-lost tally and FINDQ_LOST (R152). -/
def pushOther (s : State) (f : Finding) : State :=
  withEdges s fun s =>
    if s.findq.records.length < Config.findingsCap then
      { s with findq := { s.findq with records := s.findq.records ++ [f] } }
    else
      { s with findq := { s.findq with lost := true, lostTally := tallyAdd s.findq.lostTally 1 } }

/-- A settle finding joins the queue, stamped with the time at which it is pushed (R113, R144). -/
def appendSettle (s : State) (f : Finding) : State :=
  withEdges s fun s =>
    { s with findq := { s.findq with records := s.findq.records ++ [{ f with time := s.clock.value }] } }

/-- The settle in progress changed, if there is one. -/
def State.setSettle (s : State) (w : Settle) : State :=
  { s with settle := { s.settle with engine := .settling w } }

/-- A push by the Settle Engine (R116, R148): taken below 240 records; otherwise the engine keeps the finding and is
STALLED. `w` is the settle as it goes on after the push. -/
def settlePush (s : State) (w : Settle) (f : Finding) : State :=
  if s.findq.records.length < Config.settleCeiling then
    (appendSettle s f).setSettle w
  else
    withEdges s fun s => s.setSettle { w with kept := some f }

/-! ### Field Port -/

/-- A control signal handed to the Field Port for a lane: the latest replaces one that waits (R166). -/
def handSignal (s : State) (l : Fin 8) (sig : Option Signal) : State :=
  { s with field := { s.field with signals := s.field.signals.set l.val sig l.isLt } }

/-- A frame offered to the Field-Out Queue (R167). -/
def offerFieldOut (s : State) (f : OutFrame) : State :=
  if s.field.out.length < Config.fieldOutCap then
    { s with field := { s.field with out := s.field.out ++ [f] } }
  else
    { s with field := { s.field with outDrops := tallyAdd s.field.outDrops 1 } }

/-! ### Sighting Queues -/

/-- The pause and resume thresholds evaluated for one lane (R55, R56). -/
def evalPause (s : State) (l : Fin 8) : State :=
  let r := s.lane l
  if s.opts.laneAF ≤ r.queue.length ∧ r.paused = false then
    withEdges s fun s => handSignal (s.setLane l { r with paused := true }) l (some .pause)
  else if r.queue.length ≤ s.opts.laneAE ∧ r.paused = true then
    withEdges s fun s => handSignal (s.setLane l { r with paused := false }) l (some .resume)
  else s

/-- The end of an overrun episode evaluated for one lane (R54). -/
def evalOverrunEnd (s : State) (l : Fin 8) : State :=
  let r := s.lane l
  if r.queue.length ≤ s.opts.laneAE then s.setLane l { r with overrun := false } else s

/-- An entry joins the tail of a lane's queue (R48, R49), and the pause threshold is evaluated (R55). -/
def enqueue (s : State) (l : Fin 8) (k : EntryKind) : State :=
  let r := s.lane l
  evalPause (s.setLane l { r with queue := r.queue ++ [{ kind := k, gap := false }] }) l

/-! ### Reset hold -/

/-- A RESET request is IN_SERVICE: the full reset it caused is in progress (R186). -/
def resetInService (s : State) : Bool :=
  s.requests.slots.any fun sl => decide (sl.state = .inService .reset)

/-- A RESTART_COUNT request is IN_SERVICE: the admission arbiter has stopped draining (R44, R187). -/
def restartInService (s : State) : Bool :=
  s.requests.slots.any fun sl => decide (sl.state = .inService .restart)

/-- The part is held in reset: by the reset input, or by a RESET in progress (R170, R180, R186; log entries 17 and 22). -/
def held (s : State) : Bool := s.resetPin || resetInService s

/-- The Field Port receives frames (R162, R170, R186). -/
def fieldReceives (s : State) : Bool := s.field.up && !held s

/-- The Trunk Port receives frames. -/
def trunkReceives (s : State) : Bool := s.trunk.up && !held s

/-- A frame discarded and counted by the Field Port (R160). -/
def discardField (s : State) : State :=
  { s with field := { s.field with discards := tallyAdd s.field.discards 1 } }

/-- A frame discarded and counted by the Trunk Port (R160). -/
def discardTrunk (s : State) : State :=
  { s with trunk := { s.trunk with discards := tallyAdd s.trunk.discards 1 } }

/-- A lane frame taken by the Field Port and handed on (R158, R161): nothing is received while the link is DOWN or
the part is held in reset (log entry 17), and a frame that fails its field checks is discarded and counted (log
entry 15). -/
def takeLaneFrame (s : State) (lane : Nat) (fieldsOk : Bool) (act : Fin 8 → State → State) : State :=
  if fieldReceives s then
    if h : lane < 8 ∧ fieldsOk = true then act ⟨lane, h.1⟩ s else discardField s
  else s

/-- A trunk frame taken and handed on, as `takeLaneFrame`. -/
def takeTrunkFrame (s : State) (fieldsOk : Bool) (act : State → State) : State :=
  if trunkReceives s then if fieldsOk then act s else discardTrunk s else s

/-! ### Request Queue -/

/-- PENDING or IN_SERVICE: the reply is not yet made (R171). -/
def unanswered (sl : Slot) : Bool :=
  match sl.state with
  | .pending => true
  | .inService _ => true
  | _ => false

/-- The oldest slot whose reply is not yet made: the head of the Request Queue. -/
def headSlot (s : State) : Option Slot := s.requests.slots.find? unanswered

/-- The oldest slot that passes a test, changed. -/
def changeFirst (test : Slot → Bool) (f : Slot → Slot) : List Slot → List Slot
  | [] => []
  | sl :: rest => if test sl then f sl :: rest else sl :: changeFirst test f rest

/-- The slots replaced. -/
def State.setSlots (s : State) (slots : List Slot) : State :=
  { s with requests := { s.requests with slots := slots } }

/-- The head request takes a new slot state. -/
def setHead (s : State) (st : Slot → SlotState) : State :=
  s.setSlots (changeFirst unanswered (fun sl => { sl with state := st sl }) s.requests.slots)

/-- What a request is answered with: status, the named segment's state for a Shelf List request (R8), and the
result fields. -/
structure Answer where
  status : Status
  segState : Option Byte := none
  body : ReplyBody := .none
  deriving DecidableEq, Repr

/-- The reply to a request (R174): tag and kind echoed, with the answer. -/
def replyTo (sl : Slot) (a : Answer) : Reply :=
  { tag := sl.tag, kind := requestCode sl.request, status := a.status, segState := a.segState, body := a.body }

/-- The head request's reply is made and its slot becomes REPLY_READY (R173). -/
def answerHead (s : State) (a : Answer) : State := setHead s fun sl => .replyReady (replyTo sl a)

/-- The head request becomes IN_SERVICE (R173). -/
def beginService (s : State) (w : Work) : State := setHead s fun _ => .inService w

/-- The request next to be served: the oldest PENDING one, when none is IN_SERVICE (R173). The rows that serve a request
take its arguments from here (DEDUCED, log entry 4); one that finds another request changes nothing (log entry 2). -/
def nextRequest (s : State) : Option Request :=
  match headSlot s with
  | some sl => if sl.state = .pending then some sl.request else none
  | none => none

/-- The request in service and its work, if any (R173). -/
def inService (s : State) : Option (Request × Work) :=
  match headSlot s with
  | some sl =>
    match sl.state with
    | .inService w => some (sl.request, w)
    | _ => none
  | none => none

/-- A request that takes no time: its effect and its reply are made in one step (R173). -/
def serveNow (s : State) (effect : State → State × Answer) : State :=
  let r := effect (beginService s .atOnce)
  answerHead r.1 r.2

end Sys2Proof.Machine
end

