-- ==== Sys2Proof/Machine/Store.lean ====
section
/-! DEFINITION. The Shelf List Store: runs of the Item Table and the requests of R8 to R18. -/

namespace Sys2Proof.Machine

/-! ### Runs and free figures (R3, R10) -/

/-- Every segment's run, as first item and item count, by first item. -/
def runsOf (segs : Table Segment) : List (Nat × Nat) :=
  sortBy (fun a b => decide (a.1 < b.1)) (segs.map fun e => (e.2.firstItem, e.2.itemCount))

/-- The free stretches, as first slot and length, from a slot on, between the runs given in order. -/
def gapsFrom (start : Nat) : List (Nat × Nat) → List (Nat × Nat)
  | [] => [(start, Config.itemSlots - start)]
  | (first, count) :: rest => (start, first - start) :: gapsFrom (first + count) rest

/-- The free stretches of the Item Table, lowest first; a stretch may have length 0. -/
def freeStretches (segs : Table Segment) : List (Nat × Nat) := gapsFrom 0 (runsOf segs)

/-- First fit (R10): the start of the lowest free stretch of at least n slots. -/
def firstFit (segs : Table Segment) (n : Nat) : Option Nat :=
  ((freeStretches segs).find? fun g => decide (n ≤ g.2)).map Prod.fst

/-- The number of free slots (R3). -/
def countFree (segs : Table Segment) : Nat :=
  Config.itemSlots - (segs.map fun e => e.2.itemCount).foldl (· + ·) 0

/-- The length of the longest free stretch (R3). -/
def longestFree (segs : Table Segment) : Nat :=
  ((freeStretches segs).map Prod.snd).foldl max 0

/-- The store's two free figures brought up to date (R3). -/
def refigure (st : Store) : Store :=
  { st with freeCount := countFree st.segments, largestFree := longestFree st.segments }

/-- A slot lies in a segment's run (R3). -/
def inRun (r : Segment) (i : Nat) : Bool := decide (r.firstItem ≤ i ∧ i < r.firstItem + r.itemCount)

/-- The written items of a segment's run, by item index and so by offset (R3). -/
def runItems (s : State) (r : Segment) : Table Item := tfilter (fun i _ => inRun r i) s.store.items

/-- A segment's run given back and its record UNLOADED (R1, R3): its slots become free, and the free figures are
recomputed. -/
def giveBack (s : State) (g : Nat) (r : Segment) : State :=
  { s with store := refigure { s.store with segments := terase s.store.segments g,
                                            items := tfilter (fun i _ => !inRun r i) s.store.items } }

/-! ### Answers that carry the segment's state (R8) -/

/-- The code of a segment's state as a reply carries it; the free value of log entry 9 for a number that names no
segment. -/
def segmentStateByte (s : State) (g : Nat) : Option Byte :=
  if g < Config.segments then some (BitVec.ofNat 8 (segmentCode (s.segment g))) else Config.stateOfNoSegment g

/-- The outcome of a Shelf List request that names segment g: the state after it, and its answer with the
segment's state as it then stands (R8). -/
def segmentAnswer (g : Nat) (s : State) (status : Status) (body : ReplyBody := .none) : State × Answer :=
  (s, { status := status, segState := segmentStateByte s g, body := body })

/-! ### LOAD_BEGIN (R9) -/

/-- The item count a LOAD_BEGIN names: its field carries 0 for 512 (R9). -/
def loadCount (countField : Nat) : Nat := if countField = 0 then Config.itemsPerSegment else countField

/-- A LOAD_BEGIN with a field out of range (R9). -/
def loadBeginBad (g countField twinPresence twin : Nat) : Bool :=
  decide (Config.segments ≤ g) || decide (1 < twinPresence) ||
    (decide (twinPresence = 1) && (decide (Config.segments ≤ twin) || decide (twin = g))) ||
    decide (511 < countField)

/-- The record of a segment whose load begins (R9). -/
def beginRecord (countField twinPresence twin start : Nat) : Segment where
  phase := .loading 0
  twin := if twinPresence = 1 then some twin else none
  firstItem := start
  itemCount := loadCount countField
  countNumber := 0
  last := none

/-- LOAD_BEGIN (R9, R10). -/
def loadBegin (g countField twinPresence twin : Nat) (s : State) : State × Answer :=
  if loadBeginBad g countField twinPresence twin then segmentAnswer g s .badArgument
  else
    match s.segment g with
    | some _ => segmentAnswer g s .wrongState
    | none =>
      match firstFit s.store.segments (loadCount countField) with
      | none => segmentAnswer g s .noSpace (.largestFree s.store.largestFree)
      | some start =>
        let s' := s.setSegment g (beginRecord countField twinPresence twin start)
        segmentAnswer g { s' with store := refigure s'.store } .ok (.firstItem start)

/-! ### LOAD_ITEMS (R11) -/

/-- The offset of the first record whose rank is below the rank before it (R11). -/
def firstDrop (previous : Option Rank) (offset : Nat) : List WireItem → Option Nat
  | [] => none
  | r :: rest =>
    match previous with
    | some q => if r.rank < q then some offset else firstDrop (some r.rank) (offset + 1) rest
    | none => firstDrop (some r.rank) (offset + 1) rest

/-- The item record LOAD_ITEMS writes (R4). -/
def newItem (g : Nat) (r : WireItem) : Item where
  tag := r.tag
  rank := r.rank
  home := g
  status := (circOfCode r.status).getD .onShelf
  statusTime := none
  result := .uncounted
  placed := none
  estimate := none
  stamp := none
  hold := false

/-- The records written into consecutive slots (R11). -/
def writeItems (g : Nat) : Nat → List WireItem → Table Item → Table Item
  | _, [], t => t
  | i, r :: rest, t => writeItems g (i + 1) rest (tput t i (newItem g r))

/-- LOAD_ITEMS (R11). -/
def loadItems (g offset : Nat) (records : List WireItem) (s : State) : State × Answer :=
  if decide (Config.segments ≤ g) || records.any fun r => (circOfCode r.status).isNone then
    segmentAnswer g s .badArgument
  else
    match s.segment g with
    | none => segmentAnswer g s .wrongState
    | some r =>
      match r.phase with
      | .loading loaded =>
        let before := if loaded = 0 then none else (s.item (r.firstItem + (loaded - 1))).map Item.rank
        if offset ≠ loaded then segmentAnswer g s .sequenceError (.loadedSoFar loaded)
        else if r.itemCount < offset + records.length then segmentAnswer g s .badArgument
        else
          match firstDrop before offset records with
          | some bad => segmentAnswer g s .orderError (.offset bad)
          | none =>
            let s' := s.setSegment g { r with phase := .loading (loaded + records.length) }
            segmentAnswer g
              { s' with store := { s'.store with
                  items := writeItems g (r.firstItem + offset) records s'.store.items } }
              .ok (.loadedSoFar (loaded + records.length))
      | _ => segmentAnswer g s .wrongState

/-! ### LOAD_END and its duplicate check (R12, R13) -/

/-- The refusal of a LOAD_END, if it is refused (R12). -/
def loadEndRefusal (s : State) (g : Nat) : Option Answer :=
  if Config.segments ≤ g then some (segmentAnswer g s .badArgument).2
  else
    match s.segment g with
    | none => some (segmentAnswer g s .wrongState).2
    | some r =>
      match r.phase with
      | .loading loaded =>
        if loaded < r.itemCount then some (segmentAnswer g s .countMismatch (.loadedSoFar loaded)).2 else none
      | _ => some (segmentAnswer g s .wrongState).2

/-- The first offending record of a run: its offset, and the item index its tag is already indexed to (R13). -/
def firstDuplicate (indexed : Tag → Option Nat) (first : Nat) (seen : List Tag) :
    Table Item → Option (Nat × Option Nat)
  | [] => none
  | (i, it) :: rest =>
    match indexed it.tag with
    | some j => some (i - first, some j)
    | none =>
      if seen.contains it.tag then some (i - first, none)
      else firstDuplicate indexed first (it.tag :: seen) rest

/-- The tags of a run entered in the Tag Index (R13). -/
def indexItems : Table Item → Table Nat → Table Nat
  | [], t => t
  | (i, it) :: rest, t => indexItems rest (tput t it.tag.toNat i)

/-- The end of the duplicate check of segment g, whose record is r (R13). -/
def finishCheck (s : State) (g : Nat) (r : Segment) : State × Answer :=
  match firstDuplicate s.lookup r.firstItem [] (runItems s r) with
  | some (offset, clash) => segmentAnswer g (giveBack s g r) .duplicateTag (.duplicate offset clash)
  | none =>
    let s' := s.setSegment g { r with phase := .ready }
    segmentAnswer g { s' with store := { s'.store with tagIndex := indexItems (runItems s r) s.store.tagIndex } }
      .ok (.itemCount r.itemCount)

/-! ### LOAD_ABORT, UNLOAD, RECOUNT, QUERY_SEGMENT (R14 to R17) -/

/-- LOAD_ABORT (R14). -/
def loadAbort (g : Nat) (s : State) : State × Answer :=
  if Config.segments ≤ g then segmentAnswer g s .badArgument
  else
    match s.segment g with
    | none => segmentAnswer g s .wrongState
    | some r =>
      match r.phase with
      | .loading _ => segmentAnswer g (giveBack s g r) .ok
      | _ => segmentAnswer g s .wrongState

/-- An observation loses an item index that names an item of the run (R15, R68). -/
def stripObservation (r : Segment) (o : Observation) : Observation :=
  match o.item with
  | some i => if inRun r i then { o with item := none } else o
  | none => o

/-- Every context in use, OPEN or CLOSED, with its observations stripped of the run's item indexes (R15, R68; DEDUCED,
log entry 16). -/
def stripContexts (r : Segment) (p : ContextPool) : ContextPool :=
  { p with contexts := p.contexts.map fun c =>
      c.map fun c => { c with observations := c.observations.map (stripObservation r) } }

/-- The effect of an UNLOAD that is taken (R15). -/
def unloadTaken (s : State) (g : Nat) (r : Segment) : State :=
  giveBack { s with store := { s.store with tagIndex := tfilter (fun _ i => !inRun r i) s.store.tagIndex },
                    pool := stripContexts r s.pool } g r

/-- UNLOAD (R15). -/
def unload (g : Nat) (s : State) : State × Answer :=
  if Config.segments ≤ g then segmentAnswer g s .badArgument
  else
    match s.segment g with
    | none => segmentAnswer g s .wrongState
    | some r =>
      match r.phase with
      | .ready | .settled =>
        if (runItems s r).any fun e => e.2.hold then segmentAnswer g s .busy
        else segmentAnswer g (unloadTaken s g r) .ok
      | _ => segmentAnswer g s .wrongState

/-- RECOUNT (R16). -/
def recount (g : Nat) (s : State) : State × Answer :=
  if Config.segments ≤ g then segmentAnswer g s .badArgument
  else
    match s.segment g with
    | none => segmentAnswer g s .wrongState
    | some r =>
      match r.phase with
      | .ready => segmentAnswer g s .ok
      | .settled => segmentAnswer g (s.setSegment g { r with phase := .ready }) .ok
      | _ => segmentAnswer g s .wrongState

/-- QUERY_SEGMENT (R17). -/
def querySegment (g : Nat) (s : State) : State × Answer :=
  if Config.segments ≤ g then segmentAnswer g s .badArgument
  else segmentAnswer g s .ok (.segment (s.segment g))

/-! ### QUERY_ITEM (R18) -/

/-- A QUERY_ITEM with a field out of range (R18, 9.7.4). -/
def queryItemBad (selector : Nat) (value : BitVec 64) : Bool :=
  decide (1 < selector) || (decide (selector = 1) && decide (65535 < value.toNat))

/-- The item a QUERY_ITEM names: by tag code through the Tag Index, or by item index (R18). -/
def queryTarget (s : State) (selector : Nat) (value : BitVec 64) : Option (Nat × Item) :=
  let index := if selector = 0 then s.lookup value else some value.toNat
  match index with
  | none => none
  | some i => (s.item i).map fun it => (i, it)

/-- The answer of a QUERY_ITEM that does not wait (R18). -/
def queryItemAnswer (selector : Nat) (value : BitVec 64) (s : State) : State × Answer :=
  if queryItemBad selector value then (s, { status := .badArgument })
  else
    match queryTarget s selector value with
    | none => (s, { status := .notFound })
    | some (i, it) => (s, { status := .ok, body := .item i it })

/-- The held item a QUERY_ITEM must wait for, if it names one (R18, R20). -/
def queryItemHeld (selector : Nat) (value : BitVec 64) (s : State) : Option Nat :=
  if queryItemBad selector value then none
  else
    match queryTarget s selector value with
    | some (i, it) => if it.hold then some i else none
    | none => none

/-! ### The served requests -/

/-- LOAD_BEGIN served. -/
def execLoadBegin (s : State) : Host.Outcome State Fault Refusal :=
  .next <| match nextRequest s with
    | some (.loadBegin g c tp tw) => serveNow s (loadBegin g c tp tw)
    | _ => s

/-- LOAD_ITEMS served. -/
def execLoadItems (s : State) : Host.Outcome State Fault Refusal :=
  .next <| match nextRequest s with
    | some (.loadItems g offset records) => serveNow s (loadItems g offset records)
    | _ => s

/-- LOAD_END served: refused, or the duplicate check begins and the request holds the head of the queue (R12). -/
def execLoadEnd (s : State) : Host.Outcome State Fault Refusal :=
  .next <| match nextRequest s with
    | some (.loadEnd g) =>
      match loadEndRefusal s g with
      | some a => serveNow s fun s => (s, a)
      | none => beginService s .duplicateCheck
    | _ => s

/-- The duplicate check of the LOAD_END in service is complete (R13). -/
def execLoadEndCheckDone (s : State) : Host.Outcome State Fault Refusal :=
  .next <| match inService s with
    | some (.loadEnd g, .duplicateCheck) =>
      match s.segment g with
      | some r =>
        match r.phase with
        | .loading _ =>
          let done := finishCheck s g r
          answerHead done.1 done.2
        | _ => s
      | none => s
    | _ => s

/-- LOAD_ABORT served. -/
def execLoadAbort (s : State) : Host.Outcome State Fault Refusal :=
  .next <| match nextRequest s with
    | some (.loadAbort g) => serveNow s (loadAbort g)
    | _ => s

/-- UNLOAD served. -/
def execUnload (s : State) : Host.Outcome State Fault Refusal :=
  .next <| match nextRequest s with
    | some (.unload g) => serveNow s (unload g)
    | _ => s

/-- RECOUNT served. -/
def execRecount (s : State) : Host.Outcome State Fault Refusal :=
  .next <| match nextRequest s with
    | some (.recount g) => serveNow s (recount g)
    | _ => s

/-- QUERY_SEGMENT served. -/
def execQuerySegment (s : State) : Host.Outcome State Fault Refusal :=
  .next <| match nextRequest s with
    | some (.querySegment g) => serveNow s (querySegment g)
    | _ => s

/-- QUERY_ITEM served: answered at once, or it waits at the head of the queue for the hold to clear (R18). -/
def execQueryItem (s : State) : Host.Outcome State Fault Refusal :=
  .next <| match nextRequest s with
    | some (.queryItem selector value) =>
      match queryItemHeld selector value s with
      | some i => beginService s (.holdWait i)
      | none => serveNow s (queryItemAnswer selector value)
    | _ => s

/-- The hold a QUERY_ITEM waited for has cleared: its reply is made from the record as the settle left it (R18). -/
def execQueryItemHoldCleared (s : State) : Host.Outcome State Fault Refusal :=
  .next <| match inService s with
    | some (_, .holdCleared i it) => answerHead s { status := .ok, body := .item i it }
    | _ => s

end Sys2Proof.Machine
end

