-- ==== Sys2Proof/Machine/Contexts.lean ====
section
/-! DEFINITION. The Count Context Pool: opening (R69), admitting sightings (R70 to R75), closing (R78, R79, R82), and
CLOSE_SEGMENT (R80); and LOAD_WEIGHTS (R92). -/

namespace Sys2Proof.Machine

/-! ### Closing -/

/-- The phase a segment returns to by an empty close (R82). -/
def priorPhase : Prior → Phase
  | .ready => .ready
  | .settled => .settled

/-- A segment joins the tail of the Settle Queue; an IDLE engine takes it at once and is RUNNING (R79, R101). -/
def joinSettleQueue (s : State) (g : Nat) : State :=
  { s with settle := { queue := s.settle.queue ++ [g],
                       engine := match s.settle.engine with
                         | .idle => .taking
                         | e => e } }

/-- An empty close (R82): the context is FREE, the segment is back in its prior state, and every WAITING lane's
re-evaluation flag is set. -/
def emptyClose (s : State) (c : Fin 16) (ctx : Context) : State :=
  flagWaiting ((s.setContext c none).setPhase ctx.segment (priorPhase ctx.prior))

/-- A close with hand-off (R79): the context is CLOSED, the segment SETTLING and in the Settle Queue. -/
def handOff (s : State) (c : Fin 16) (ctx : Context) (owner : Fin 8) (cause : CloseCause) : State :=
  joinSettleQueue ((s.setContext c (some { ctx with phase := .closed owner cause })).setPhase ctx.segment
    (.settling c)) ctx.segment

/-- A close of an OPEN context (R78); a context that is not OPEN is not closed. -/
def closeContext (s : State) (c : Fin 16) (cause : CloseCause) : State :=
  match s.context c with
  | none => s
  | some ctx =>
    match ctx.phase with
    | .closed _ _ => s
    | .opened owner =>
      if ctx.observations.isEmpty then emptyClose s c ctx else handOff s c ctx owner cause

/-- The context of a COUNTING segment (R66). -/
def countingContext (s : State) (g : Nat) : Option (Fin 16) :=
  match s.segment g with
  | none => none
  | some r =>
    match r.phase with
    | .counting c => some c
    | _ => none

/-- The context a lane owns: that of its current segment (R24). -/
def laneContext (s : State) (l : Fin 8) : Option (Fin 16) :=
  match currentSegment (s.lane l).mode with
  | none => none
  | some g => countingContext s g

/-- The context a lane owns, if any, is closed, and the lane takes another state, which stops its dwell timer and
removes its current segment (R24, R78). -/
def closeLane (s : State) (l : Fin 8) (cause : CloseCause) (m : LaneMode) : State :=
  match laneContext s l with
  | some c => (closeContext s c cause).setMode l m
  | none => s.setMode l m

/-! ### Opening -/

/-- A FREE context opened for a segment, owned by a lane; the segment is COUNTING, the lane IN_SEGMENT with its dwell
timer started (R32, R39, R69). -/
def openContext (s : State) (l : Fin 8) (g : Nat) (c : Fin 16) (prior : Prior) : State :=
  let ctx : Context :=
    { segment := g, phase := .opened l, prior := prior, openTime := s.clock.value, truncated := false,
      capDiscards := 0, poolDiscards := 0, observations := [] }
  ((s.setContext c (some ctx)).setPhase g (.counting c)).setMode l (.inSegment g (dwellStart s.opts l))

/-! ### Admission -/

/-- A sighting merged into the observation of its tag (R71, R95). -/
def mergeSighting (knots : Vector (BitVec 16) 17) (o : Observation) (rssi : Int) (position : Option Nat)
    (arrival : Time) : Observation :=
  let c := if o.count < Config.countMax then contribution knots rssi position else (0, 0)
  { o with count := satAdd Config.countMax o.count 1, w := o.w + c.1, p := o.p + c.2,
           peak := max o.peak rssi, lastTime := arrival }

/-- The observation a sighting forms (R72). -/
def newObservation (s : State) (tag : Tag) (rssi : Int) (position : Option Nat) (arrival : Time) : Observation :=
  let c := contribution s.weights rssi position
  { tag := tag, item := s.lookup tag, count := 1, w := c.1, p := c.2, peak := rssi,
    firstTime := arrival, lastTime := arrival }

/-- The FIRST_SIGHT finding of an observation formed (R73, R146). -/
def firstSightFinding (g : Nat) (l : Fin 8) (o : Observation) (position : Option Nat) : Finding :=
  { kind := .firstSight, time := o.firstTime, segment := some g, lane := some l, tag := some o.tag,
    item := o.item, peak := some o.peak, estimate := position }

/-- An observation formed (R72), with its FIRST_SIGHT finding when enabled (R73). -/
def formObservation (s : State) (l : Fin 8) (c : Fin 16) (ctx : Context) (tag : Tag) (rssi : Int)
    (position : Option Nat) (arrival : Time) : State :=
  let o := newObservation s tag rssi position arrival
  let s' := withEdges s fun s =>
    let s := s.setContext c (some { ctx with observations := ctx.observations ++ [o] })
    { s with pool := { s.pool with freeSlots := s.pool.freeSlots - 1 } }
  if firstSightEmit s.opts then pushOther s' (firstSightFinding ctx.segment l o position) else s'

/-- The CONTEXT_FULL or POOL_EXHAUSTED finding of a first discard (R74, R75, R146). -/
def discardFinding (kind : FindingKind) (g : Nat) (l : Fin 8) (tag : Tag) (arrival : Time) : Finding :=
  { kind := kind, time := arrival, truncated := true, segment := some g, lane := some l, tag := some tag }

/-- A sighting discarded at the cap (R74). -/
def discardAtCap (s : State) (l : Fin 8) (c : Fin 16) (ctx : Context) (tag : Tag) (arrival : Time) : State :=
  let s' := s.setContext c (some { ctx with capDiscards := satAdd Config.countMax ctx.capDiscards 1,
                                            truncated := ctx.truncated || decide (ctx.capDiscards = 0) })
  if ctx.capDiscards = 0 then pushOther s' (discardFinding .contextFull ctx.segment l tag arrival) else s'

/-- A sighting discarded for an empty pool (R75). -/
def discardForPool (s : State) (l : Fin 8) (c : Fin 16) (ctx : Context) (tag : Tag) (arrival : Time) : State :=
  let s' := s.setContext c (some { ctx with poolDiscards := satAdd Config.countMax ctx.poolDiscards 1,
                                            truncated := ctx.truncated || decide (ctx.poolDiscards = 0) })
  if ctx.poolDiscards = 0 then pushOther s' (discardFinding .poolExhausted ctx.segment l tag arrival) else s'

/-- The observations with a sighting merged into that of its tag (R71). -/
def mergeInto (knots : Vector (BitVec 16) 17) (tag : Tag) (rssi : Int) (position : Option Nat) (arrival : Time)
    (os : List Observation) : List Observation :=
  os.map fun o => if o.tag = tag then mergeSighting knots o rssi position arrival else o

/-- Admission of one sighting to a lane's OPEN context, in the order of checks of R70. -/
def admitSighting (s : State) (l : Fin 8) (c : Fin 16) (ctx : Context) (tag : Tag) (rssi : Int) (position : Option Nat)
    (arrival : Time) : State :=
  if ctx.observations.any fun o => decide (o.tag = tag) then
    s.setContext c (some { ctx with
      observations := mergeInto s.weights tag rssi position arrival ctx.observations })
  else if Config.contextCap ≤ ctx.observations.length then discardAtCap s l c ctx tag arrival
  else if s.pool.freeSlots = 0 then discardForPool s l c ctx tag arrival
  else formObservation s l c ctx tag rssi position arrival

/-! ### CLOSE_SEGMENT and LOAD_WEIGHTS -/

/-- CLOSE_SEGMENT (R41, R80): the context is closed with cause REQUEST, and its owner lane becomes IN_VOID. -/
def closeSegment (g : Nat) (s : State) : State × Answer :=
  if Config.segments ≤ g then (s, { status := .badArgument })
  else
    match countingContext s g with
    | none => (s, { status := .wrongState })
    | some c =>
      match s.context c with
      | none => (s, { status := .wrongState })
      | some ctx =>
        match ctx.phase with
        | .closed _ _ => (s, { status := .wrongState })
        | .opened owner =>
          let s' := (closeContext s c .request).setMode owner .inVoid
          (s', { status := .ok,
                 body := .closed c ctx.observations.length ctx.truncated (segmentCode (s'.segment g)) })

/-- LOAD_WEIGHTS (R92): BUSY while any segment is COUNTING or SETTLING, else all 17 knots are replaced; the reply
carries the knots in force. -/
def loadWeights (knots : Vector (BitVec 16) 17) (s : State) : State × Answer :=
  if countingOrSettling s then (s, { status := .busy, body := .knots s.weights })
  else ({ s with weights := knots }, { status := .ok, body := .knots knots })

/-- CLOSE_SEGMENT served. -/
def execCloseSegment (s : State) : Host.Outcome State Fault Refusal :=
  .next <| match nextRequest s with
    | some (.closeSegment g) => serveNow s (closeSegment g)
    | _ => s

/-- LOAD_WEIGHTS served. -/
def execLoadWeights (s : State) : Host.Outcome State Fault Refusal :=
  .next <| match nextRequest s with
    | some (.loadWeights knots) => serveNow s (loadWeights knots)
    | _ => s

end Sys2Proof.Machine
end

