-- ==== Sys2Proof/Machine/Lanes.lean ====
section
/-! DEFINITION. Lanes and Sighting Queues: attachment (R25, R26), lane frames (R28, R47 to R53), the admission arbiter and what
each drained entry does (R30 to R38), the dwell timer (R39, R40), and SET_WINDOW (R42). -/

namespace Sys2Proof.Machine

/-! ### Attaching and detaching -/

/-- A DETACHED, enabled lane becomes IDLE with a clean queue; otherwise LANE_UP changes nothing (R25). -/
def laneUp (l : Fin 8) (s : State) : State :=
  let r := s.lane l
  if r.mode = .detached ∧ laneEnabled s.opts l = true then
    withEdges s fun s => s.setLane l { r with mode := .idle, queue := [], paused := false, overrun := false }
  else s

/-- Detachment (R26, R61): the queue is discarded into the drop tally, an owned context is closed with cause
LANE_DOWN, the flags are cleared, the lane is DETACHED, and a control signal that waits for it is dropped. -/
def detach (s : State) (l : Fin 8) : State :=
  if (s.lane l).mode = .detached then s
  else
    let n := (s.lane l).queue.length
    let s := raiseDrop (s.setLane l { s.lane l with queue := [] }) l n
    let s := match laneContext s l with
      | some c => closeContext s c .laneDown
      | none => s
    withEdges s fun s =>
      handSignal (s.setLane l { s.lane l with mode := .detached, paused := false, overrun := false }) l none

/-- Several lanes detached, one at a time in the order given (R26). -/
def detachLanes : List (Fin 8) → State → State
  | [], s => s
  | l :: rest, s => detachLanes rest (detach s l)

/-! ### Lane frames at their arrival -/

/-- The newest entry of a queue takes a gap mark (R50). -/
def markNewest : List Entry → List Entry
  | [] => []
  | [e] => [{ e with gap := true }]
  | e :: f :: rest => e :: markNewest (f :: rest)

/-- The relative segment an ENTER carries. -/
def enterSegment (k : EntryKind) : Option Nat :=
  match k with
  | .enter rel => some rel
  | _ => none

/-- A lost ENTER or LEAVE (R50): the newest entry is gap-marked, the drop tally rises by 1, and LANE_MARKER_LOST is
pushed. -/
def loseMarker (s : State) (l : Fin 8) (k : EntryKind) : State :=
  let s := raiseDrop (s.setLane l { s.lane l with queue := markNewest (s.lane l).queue }) l 1
  pushOther s { kind := .laneMarkerLost, time := s.clock.value, lane := some l, reference := enterSegment k }

/-- An ENTER or LEAVE frame arriving for a lane (R28, R49). -/
def markerFrame (k : EntryKind) (l : Fin 8) (s : State) : State :=
  if (s.lane l).mode = .detached then raiseDrop s l 1
  else if (s.lane l).queue.length < Config.queueEntries then enqueue s l k
  else loseMarker s l k

/-- A sighting discarded at a full queue (R48, R53): the drop tally rises by 1, and the first of an overrun episode
sets the flag and pushes LANE_OVERRUN. -/
def discardSighting (s : State) (l : Fin 8) : State :=
  let s := raiseDrop s l 1
  if (s.lane l).overrun then s
  else
    pushOther (s.setLane l { s.lane l with overrun := true })
      { kind := .laneOverrun, time := s.clock.value, lane := some l }

/-- The entry a sighting makes: RSSI clamped, arrival time the frame's (R47, R87). -/
def sightEntry (now : Time) (w : WireSighting) : EntryKind :=
  .sight w.tag (clampRssi w.rssi) (if w.positioned then some w.position else none) now

/-- One sighting offered to a lane's queue (R48). -/
def offerSighting (l : Fin 8) (s : State) (w : WireSighting) : State :=
  if (s.lane l).queue.length < Config.sightingLimit then enqueue s l (sightEntry s.clock.value w)
  else discardSighting s l

/-- A SIGHT frame's sightings arriving for a lane, in frame order (R28, R48). -/
def sightArrives (sightings : List WireSighting) (l : Fin 8) (s : State) : State :=
  if (s.lane l).mode = .detached then raiseDrop s l sightings.length
  else sightings.foldl (offerSighting l) s

/-- The field checks of a SIGHT frame beside its lane (R161). -/
def sightFieldsOk (sightings : List WireSighting) : Bool :=
  decide (1 ≤ sightings.length ∧ sightings.length ≤ 8) &&
    sightings.all fun w => !w.positioned || decide (w.position ≤ 4095)

/-! ### The admission arbiter (R30, R59) -/

/-- A lane is eligible for service (R30). -/
def eligible (s : State) (l : Fin 8) : Bool :=
  match (s.lane l).mode with
  | .detached => false
  | .waiting _ _ flag => flag
  | _ => !(s.lane l).queue.isEmpty

/-- The lane the arbiter serves next: the first eligible one from its pointer, and none while a count restart has
stopped it (R30, R44, R187). -/
def arbiterChoice (s : State) : Option (Fin 8) :=
  if restartInService s then none else firstFrom s.lanes.next (eligible s)

/-- The entry the arbiter drains next, with its lane, when the lane it serves is not WAITING (R30). -/
def nextDrain (s : State) : Option (Fin 8 × Entry) :=
  match arbiterChoice s with
  | none => none
  | some l =>
    if isWaiting (s.lane l).mode then none
    else
      match (s.lane l).queue with
      | [] => none
      | e :: _ => some (l, e)

/-- The pointer after a service of lane l (R30). -/
def servedLane (s : State) (l : Fin 8) : State := { s with lanes := { s.lanes with next := l + 1 } }

/-- The oldest entry of lane l's queue leaves it, and the thresholds are evaluated at the new count (R59). -/
def takeHead (s : State) (l : Fin 8) : State :=
  let s := servedLane s l
  let s := s.setLane l { s.lane l with queue := (s.lane l).queue.tail }
  evalPause (evalOverrunEnd s l) l

/-- The gap-mark rule, after the entry has acted (R38). -/
def applyGap (s : State) (l : Fin 8) (gap : Bool) : State :=
  if gap = true ∧ (currentSegment (s.lane l).mode).isSome = true then closeLane s l .markerLost .inVoid else s

/-! ### What an ENTER does -/

/-- What becomes of an ENTER (R31, R32). -/
inductive EnterOutcome where
  | rangeRefused
  | claimConflict (segment : Nat)
  | notReady (segment : Nat)
  | waits
  | opens (segment : Nat) (context : Fin 16) (prior : Prior)
  deriving DecidableEq, Repr

/-- The ENTER of a countable segment: a context is opened, or the lane waits for one (R32). -/
def openOrWait (s : State) (g : Nat) (prior : Prior) : EnterOutcome :=
  match freeContext s with
  | some c => .opens g c prior
  | none => .waits

/-- The evaluation of an ENTER, drained or pending, against the window and the segment's state (R31, R32). -/
def enterOutcome (s : State) (l : Fin 8) (rel : Nat) : EnterOutcome :=
  let g := (s.lane l).base + rel
  if (s.lane l).limit ≤ g then .rangeRefused
  else
    match s.segment g with
    | none => .notReady g
    | some r =>
      match r.phase with
      | .loading _ => .notReady g
      | .counting _ => .claimConflict g
      | .settling _ => .waits
      | .ready => openOrWait s g .ready
      | .settled => if recountByLane s.opts then openOrWait s g .settled else .notReady g

/-- The finding of a refused ENTER (R33, R146). -/
def refusalFinding (s : State) (l : Fin 8) (rel : Nat) : EnterOutcome → Option Finding
  | .rangeRefused => some { kind := .rangeRefused, time := s.clock.value, lane := some l, reference := some rel }
  | .claimConflict g => some { kind := .claimConflict, time := s.clock.value, lane := some l, segment := some g }
  | .notReady g => some { kind := .segmentNotReady, time := s.clock.value, lane := some l, segment := some g }
  | _ => none

/-- An ENTER acts (R31 to R33, R38): refused with its finding, held as the pending ENTER with its flag clear, or a
context opened; then its gap mark. -/
def evalEnter (s : State) (l : Fin 8) (rel : Nat) (gap : Bool) : State :=
  match enterOutcome s l rel with
  | .waits => s.setMode l (.waiting rel gap false)
  | .opens g c prior => applyGap (openContext s l g c prior) l gap
  | refused =>
    match refusalFinding s l rel refused with
    | some f => (pushOther s f).setMode l .inVoid
    | none => s

/-- A lane that is IN_SEGMENT first closes its context with cause NEW_ENTER (R31). -/
def closeForEnter (s : State) (l : Fin 8) : State :=
  if (currentSegment (s.lane l).mode).isSome then closeLane s l .newEnter .idle else s

/-! ### What a SIGHT and a LEAVE do -/

/-- A SIGHT acts (R36, R39): admitted with the dwell timer restarted, or a void sighting. -/
def actSight (s : State) (l : Fin 8) (tag : Tag) (rssi : Int) (position : Option Nat) (arrival : Time) : State :=
  match currentSegment (s.lane l).mode with
  | none => s.setLane l { s.lane l with voidTally := tallyAdd (s.lane l).voidTally 1 }
  | some g =>
    match countingContext s g with
    | none => s
    | some c =>
      match s.context c with
      | none => s
      | some ctx =>
        (admitSighting s l c ctx tag rssi position arrival).setMode l (restartDwell s.opts l (s.lane l).mode)

/-- A LEAVE acts (R37): an owned context is closed with cause LEAVE, and the lane is IDLE. -/
def actLeave (s : State) (l : Fin 8) : State :=
  if (currentSegment (s.lane l).mode).isSome then closeLane s l .leave .idle else s.setMode l .idle

/-! ### SET_WINDOW -/

/-- SET_WINDOW (R42). -/
def setWindow (lane base limit : Nat) (s : State) : State × Answer :=
  if h : lane < 8 ∧ base ≤ limit ∧ limit ≤ 2048 then
    let l : Fin 8 := ⟨lane, h.1⟩
    if (currentSegment (s.lane l).mode).isSome || isWaiting (s.lane l).mode then (s, { status := .busy })
    else
      (s.setLane l { s.lane l with base := base, limit := limit },
        { status := .ok, body := .window base limit })
  else (s, { status := .badArgument })

/-! ### The commands -/

/-- SET_WINDOW served. -/
def execSetWindow (s : State) : Host.Outcome State Fault Refusal :=
  .next <| match nextRequest s with
    | some (.setWindow lane base limit) => serveNow s (setWindow lane base limit)
    | _ => s

/-- A LANE_UP frame. -/
def execLaneUp (lane : Nat) (s : State) : Host.Outcome State Fault Refusal :=
  .next (takeLaneFrame s lane true laneUp)

/-- A LANE_DOWN frame. -/
def execLaneDown (lane : Nat) (s : State) : Host.Outcome State Fault Refusal :=
  .next (takeLaneFrame s lane true fun l s => detach s l)

/-- An ENTER frame. -/
def execEnterFrame (lane rel : Nat) (s : State) : Host.Outcome State Fault Refusal :=
  .next (takeLaneFrame s lane (decide (rel ≤ 2047)) (markerFrame (.enter rel)))

/-- A LEAVE frame. -/
def execLeaveFrame (lane : Nat) (s : State) : Host.Outcome State Fault Refusal :=
  .next (takeLaneFrame s lane true (markerFrame .leave))

/-- A SIGHT frame. -/
def execSightFrame (lane : Nat) (sightings : List WireSighting) (s : State) : Host.Outcome State Fault Refusal :=
  .next (takeLaneFrame s lane (sightFieldsOk sightings) (sightArrives sightings))

/-- The arbiter drains an ENTER. -/
def execDrainEnter (s : State) : Host.Outcome State Fault Refusal :=
  .next <| match nextDrain s with
    | some (l, { kind := .enter rel, gap := gap }) => evalEnter (closeForEnter (takeHead s l) l) l rel gap
    | _ => s

/-- The arbiter drains a SIGHT. -/
def execDrainSight (s : State) : Host.Outcome State Fault Refusal :=
  .next <| match nextDrain s with
    | some (l, { kind := .sight tag rssi position arrival, gap := gap }) =>
      applyGap (actSight (takeHead s l) l tag rssi position arrival) l gap
    | _ => s

/-- The arbiter drains a LEAVE. -/
def execDrainLeave (s : State) : Host.Outcome State Fault Refusal :=
  .next <| match nextDrain s with
    | some (l, { kind := .leave, gap := gap }) => applyGap (actLeave (takeHead s l) l) l gap
    | _ => s

/-- The arbiter serves a WAITING lane whose re-evaluation flag is set (R34). -/
def execReevaluatePendingEnter (s : State) : Host.Outcome State Fault Refusal :=
  .next <| match arbiterChoice s with
    | some l =>
      match (s.lane l).mode with
      | .waiting rel gap _ => evalEnter (servedLane s l) l rel gap
      | _ => s
    | none => s

/-- The dwell timer of a lane expires (R40): due once its ticks to expiry are 0 (DEDUCED, log entry 18). -/
def execDwellTimeout (l : Fin 8) (s : State) : Host.Outcome State Fault Refusal :=
  .next <| match (s.lane l).mode with
    | .inSegment _ (some 0) => closeLane s l .dwellTimeout .inVoid
    | _ => s

end Sys2Proof.Machine
end

