-- ==== Sys2Proof/Machine/Circulation.lean ====
section
/-! DEFINITION. The Circulation Unit: deciding, applying, deferring and dropping circulation events (R126 to R135). -/

namespace Sys2Proof.Machine

/-- The status an event gives its item (R126). -/
def newStatus (e : CircEvent) : CircStatus :=
  match e.kind with
  | .checkout => .onLoan
  | .checkin => .inTransit
  | .reshelve => .onShelf
  | .setStatus => e.status.getD .onShelf

/-- The event a frame carries, stamped with its arrival time; none for a kind outside the four or a SET_STATUS
whose status value is outside the six (R127). The status value is read for SET_STATUS alone (R126). -/
def readEvent (now : Time) (w : WireEvent) : Option CircEvent :=
  match eventOfCode w.kind with
  | none => none
  | some .setStatus =>
    match circOfCode w.status with
    | none => none
    | some st => some { kind := .setStatus, tag := w.tag, status := some st, arrival := now }
  | some k => some { kind := k, tag := w.tag, status := none, arrival := now }

/-- An event ignored (R127, R140). -/
def ignoreEvent (s : State) : State :=
  { s with circ := { s.circ with ignored := tallyAdd s.circ.ignored 1 } }

/-- The results that an application turns to ACCOUNTED (R130). -/
def explained (r : CountResult) : Bool := decide (r = .missing) || decide (r = .unverified)

/-- The REVISED finding of an application (R131, R146). -/
def accountedFinding (now : Time) (i : Nat) (it : Item) : Finding :=
  { kind := .revised, time := now, segment := some it.home, count := it.stamp.map (·.count), item := some i,
    tag := some it.tag, rank := some it.rank, oldResult := some it.result, newResult := some .accounted }

/-- The item record after an event is applied to it (R128, R130). -/
def appliedItem (e : CircEvent) (it : Item) : Item :=
  { it with status := newStatus e, statusTime := some e.arrival,
            result := if explained it.result then .accounted else it.result }

/-- An event applied to item i, whose record is `it` (R130). -/
def applyEvent (s : State) (e : CircEvent) (i : Nat) (it : Item) : State :=
  let s := s.setItem i (appliedItem e it)
  let s := if explained it.result then pushOther s (accountedFinding s.clock.value i it) else s
  { s with circ := { s.circ with applied := tallyAdd s.circ.applied 1 } }

/-- The item a tag code names, with its record. -/
def lookupItem (s : State) (t : Tag) : Option (Nat × Item) :=
  match s.lookup t with
  | none => none
  | some i => (s.item i).map fun it => (i, it)

/-- The Deferred Queue holds an event of this tag code (R129). -/
def tagDeferred (s : State) (t : Tag) : Bool := s.circ.deferred.any fun e => decide (e.tag = t)

/-- The CIRC_DROPPED finding (R134, R146). -/
def droppedFinding (e : CircEvent) (i : Nat) (it : Item) : Finding :=
  { kind := .circDropped, time := e.arrival, segment := some it.home, tag := some e.tag, item := some i,
    event := some e.kind }

/-- An event deferred, or dropped at a full Deferred Queue (R133, R134). -/
def deferEvent (s : State) (e : CircEvent) (i : Nat) (it : Item) : State :=
  if s.circ.deferred.length < Config.deferredCap then
    withEdges s fun s =>
      { s with circ := { s.circ with deferred := s.circ.deferred ++ [e],
                                     deferredTally := tallyAdd s.circ.deferredTally 1 } }
  else
    pushOther { s with circ := { s.circ with dropped := tallyAdd s.circ.dropped 1 } } (droppedFinding e i it)

/-- One event of a frame taken: ignored, applied, deferred or dropped (R127, R129). -/
def takeEvent (now : Time) (s : State) (w : WireEvent) : State :=
  match readEvent now w with
  | none => ignoreEvent s
  | some e =>
    match lookupItem s e.tag with
    | none => ignoreEvent s
    | some (i, it) => if it.hold || tagDeferred s e.tag then deferEvent s e i it else applyEvent s e i it

/-- One deferred event visited: applied, or removed and counted as ignored (R135, R141). -/
def applyDeferred (s : State) (e : CircEvent) : State :=
  match lookupItem s e.tag with
  | none => ignoreEvent s
  | some (i, it) => applyEvent s e i it

/-- The whole Deferred Queue applied in queue order, which leaves it empty (R135, R141). -/
def drainDeferred (s : State) : State :=
  withEdges (s.circ.deferred.foldl applyDeferred s) fun s => { s with circ := { s.circ with deferred := [] } }

/-- The field checks of a CIRC frame (R161). -/
def circFieldsOk (events : List WireEvent) : Bool := decide (1 ≤ events.length ∧ events.length ≤ 8)

/-- A CIRC frame: its events are taken one at a time, in frame order (R126). -/
def execCirc (events : List WireEvent) (s : State) : Host.Outcome State Fault Refusal :=
  .next (takeTrunkFrame s (circFieldsOk events) fun s => events.foldl (takeEvent s.clock.value) s)

/-- The scan a release set going (R135); at its end the engine takes the next segment or is IDLE (R101, R122). -/
def execDeferredScan (s : State) : Host.Outcome State Fault Refusal :=
  .next <| match s.settle.engine with
    | .scanning =>
      let s := drainDeferred s
      { s with settle := { s.settle with engine := if s.settle.queue.isEmpty then .idle else .taking } }
    | _ => s

end Sys2Proof.Machine
end

