-- ==== Sys2Proof/Machine/Settle.lean ====
section
/-! DEFINITION. The Settle Engine: the stages of a settle (R103 to R122) and its stall on the Findings Queue (R116). -/

namespace Sys2Proof.Machine

/-- The CLOSED context of a SETTLING segment (R66). -/
def settlingContext (s : State) (g : Nat) : Option (Fin 16 × Context) :=
  match s.segment g with
  | none => none
  | some r =>
    match r.phase with
    | .settling c => (s.context c).map fun ctx => (c, ctx)
    | _ => none

/-- The settle in progress while the engine is RUNNING: none is kept back (R101). -/
def running (s : State) : Option Settle :=
  match s.settle.engine with
  | .settling w => if w.kept.isNone then some w else none
  | _ => none

/-! ### Freeze and estimates -/

/-- The items a settle of segment g holds: observed, at home, or located there (R19). -/
def toHold (g : Nat) (os : List Observation) (i : Nat) (it : Item) : Bool :=
  (os.any fun o => decide (o.item = some i)) || decide (it.home = g) ||
    decide (it.placed.map (·.segment) = some g)

/-- The holds of the freeze set (R19, R103). -/
def holdItems (s : State) (g : Nat) (os : List Observation) : State :=
  { s with store := { s.store with
      items := tmap (fun i it => if toHold g os i it then { it with hold := true } else it) s.store.items } }

/-- Every hold cleared (R19, R122). -/
def clearHolds (s : State) : State :=
  { s with store := { s.store with items := tmap (fun _ it => { it with hold := false }) s.store.items } }

/-- The settle that begins at the freeze (R103). -/
def freshSettle (s : State) (g : Nat) : Settle :=
  { segment := g, xread := s.opts.xread, revise := s.opts.revise, stage := .estimates, tallies := {}, kept := none }

/-- The freeze (R103), a step of its own after the hand-off or the scan (DEDUCED, log entry 7). -/
def freeze (s : State) : State :=
  match s.settle.engine, s.settle.queue with
  | .taking, g :: rest =>
    match settlingContext s g with
    | none => s
    | some (_, ctx) =>
      let s := holdItems s g ctx.observations
      { s with settle := { queue := rest, engine := .settling (freshSettle s g) } }
  | _, _ => s

/-- The estimates of a context's observations, in list order (R97, R104). -/
def estimatesOf (os : List Observation) : List (Option Nat) := os.map fun o => positionEstimate o.w o.p

/-! ### Resolution -/

/-- Cases (c) and (d) of R105. -/
def placeOf (g : Nat) (it : Item) (estimate : Option Nat) : Place :=
  if it.home = g then (if estimate.isSome then .candidate else .unplaced) else .stray

/-- The outcome of one observation (R105 to R108). -/
def resolve (s : State) (w : Settle) (twin : Option Nat) (o : Observation) (estimate : Option Nat) : Verdict :=
  match o.item with
  | none => .unknown
  | some i =>
    match s.item i with
    | none => .unknown
    | some it =>
      match it.placed with
      | some p =>
        if p.segment = w.segment then .placed i (placeOf w.segment it estimate) none
        else if p.peak + w.revise < o.peak then
          .placed i (placeOf w.segment it estimate) (some { oldResult := it.result, oldSegment := p.segment })
        else .crossRead
      | none =>
        if twin = some it.home ∧ o.peak < w.xread then .crossRead
        else .placed i (placeOf w.segment it estimate) none

/-- The rulings of every observation, in list order (R105). -/
def resolveAll (s : State) (w : Settle) (twin : Option Nat) (os : List Observation) (es : List (Option Nat)) :
    List Ruling :=
  (os.zip es).map fun x => { observation := x.1, estimate := x.2, verdict := resolve s w twin x.1 x.2 }

/-- The number of cross-reads (R107). -/
def countCrossReads (rs : List Ruling) : Nat := rs.countP fun r => decide (r.verdict = .crossRead)

/-! ### The order chain -/

/-- A candidate for the order chain (R109). -/
structure Candidate where
  estimate : Nat
  rank : Rank
  item : Nat
  deriving DecidableEq, Repr

/-- Shelf order (R109): by estimate, then rank, then item index. -/
def shelfBefore (a b : Candidate) : Bool :=
  decide (a.estimate < b.estimate) ||
    (decide (a.estimate = b.estimate) && (decide (a.rank < b.rank) ||
      (decide (a.rank = b.rank) && decide (a.item < b.item))))

/-- The greatest L among earlier candidates whose rank is no greater than q; 0 if there is none (R109). -/
def bestBefore (done : List (Candidate × Nat)) (q : Rank) : Nat :=
  ((done.filter fun x => decide (x.1.rank ≤ q)).map Prod.snd).foldl max 0

/-- The L values (R109). Candidates are given in shelf order; the answer stands latest first. -/
def chainLengths (done : List (Candidate × Nat)) : List Candidate → List (Candidate × Nat)
  | [] => done
  | c :: cs => chainLengths ((c, 1 + bestBefore done c.rank) :: done) cs

/-- The order chain picked from the end of the shelf backward (R110): from candidates latest first, the first with
the L wanted and a rank within the bound, and so on down to L of 1. -/
def pickChain : List (Candidate × Nat) → Nat → Rank → List Candidate
  | [], _, _ => []
  | (c, n) :: rest, want, bound =>
    if n = want ∧ c.rank ≤ bound then c :: pickChain rest (want - 1) c.rank else pickChain rest want bound

/-- The order chain of candidates given in shelf order, latest member first (R110). -/
def orderChain (cs : List Candidate) : List Candidate :=
  let ls := chainLengths [] cs
  pickChain ls ((ls.map Prod.snd).foldl max 0) (BitVec.allOnes 32)

/-- The should-follow item (R111): of the chain, latest first, the first whose rank is no greater than the item's
own. A chain's ranks do not fall along the shelf, so it has the greatest such rank and is the latest of that rank. -/
def shouldFollow (chain : List Candidate) (rank : Rank) : Option Nat :=
  (chain.find? fun c => decide (c.rank ≤ rank)).map (·.item)

/-- The candidate a ruling names, with the rank of its item record. -/
def candidateOf (s : State) (r : Ruling) : Option Candidate :=
  match r.verdict, r.estimate with
  | .placed i .candidate _, some e => (s.item i).map fun it => { estimate := e, rank := it.rank, item := i }
  | _, _ => none

/-- The candidates in shelf order (R109). -/
def candidates (s : State) (rs : List Ruling) : List Candidate := sortBy shelfBefore (rs.filterMap (candidateOf s))

/-- A candidate's result: IN_PLACE in the chain, else OUT_OF_ORDER with its should-follow item (R110, R111). -/
def chainPlace (s : State) (chain : List Candidate) (i : Nat) : Place :=
  if chain.any fun c => decide (c.item = i) then .inPlace
  else .outOfOrder (match s.item i with
    | some it => shouldFollow chain it.rank
    | none => none)

/-- A ruling after the order chain stage. -/
def applyChain (s : State) (chain : List Candidate) (r : Ruling) : Ruling :=
  match r.verdict with
  | .placed i .candidate m => { r with verdict := .placed i (chainPlace s chain i) m }
  | _ => r

/-! ### Results and findings -/

/-- The count result of a placement (R112). -/
def placeResult : Place → CountResult
  | .candidate => .inPlace
  | .inPlace => .inPlace
  | .outOfOrder _ => .outOfOrder
  | .unplaced => .unplaced
  | .stray => .stray

/-- The result tallies raised by one placement (R112). -/
def tallyPlace (t : Tallies) : Place → Tallies
  | .candidate => { t with inPlace := t.inPlace + 1 }
  | .inPlace => { t with inPlace := t.inPlace + 1 }
  | .outOfOrder _ => { t with outOfOrder := t.outOfOrder + 1 }
  | .unplaced => { t with unplaced := t.unplaced + 1 }
  | .stray => { t with stray := t.stray + 1 }

/-- Status conflict (R114). -/
def inConflict (it : Item) (o : Observation) : Bool :=
  decide (it.status ≠ .onShelf) &&
    match it.statusTime with
    | none => true
    | some t => decide (t < o.lastTime)

/-- A finding of this settle, with the fields every one carries (R145). The time is given at the push. -/
def settleFinding (kind : FindingKind) (g newCount : Nat) (truncated : Bool) : Finding :=
  { kind := kind, time := 0, truncated := truncated, segment := some g, count := some newCount }

/-- The finding of a placed observation, if it produces one (R113, R114, R145). -/
def placedFinding (g newCount : Nat) (truncated : Bool) (i : Nat) (it : Item) (r : Ruling) (place : Place)
    (moved : Option Moved) : Option Finding :=
  let o := r.observation
  let conflict := inConflict it o
  match moved with
  | some m =>
    some { settleFinding .revised g newCount truncated with
      conflict := conflict, item := some i, tag := some it.tag, peak := some o.peak,
      oldResult := some m.oldResult, newResult := some (placeResult place), reference := some m.oldSegment }
  | none =>
    match place with
    | .outOfOrder follow =>
      some { settleFinding .outOfOrder g newCount truncated with
        conflict := conflict, item := some i, tag := some it.tag, rank := some it.rank, estimate := r.estimate,
        peak := some o.peak, follow := follow }
    | .stray =>
      some { settleFinding .stray g newCount truncated with
        conflict := conflict, item := some i, tag := some it.tag, rank := some it.rank, estimate := r.estimate,
        peak := some o.peak, reference := some it.home }
    | _ =>
      if conflict then
        some { settleFinding .statusConflict g newCount truncated with
          conflict := true, item := some i, tag := some it.tag, rank := some it.rank, status := some it.status,
          newResult := some (placeResult place), estimate := r.estimate, peak := some o.peak }
      else none

/-- The UNKNOWN_TAG finding (R113, R145). -/
def unknownFinding (g newCount : Nat) (truncated : Bool) (r : Ruling) : Finding :=
  { settleFinding .unknownTag g newCount truncated with
    tag := some r.observation.tag, estimate := r.estimate, peak := some r.observation.peak }

/-- The item record the results stage writes (R112). -/
def placedItem (g newCount : Nat) (now : Time) (it : Item) (r : Ruling) (place : Place) : Item :=
  { it with result := placeResult place, placed := some { segment := g, peak := r.observation.peak },
            estimate := r.estimate, stamp := some { count := newCount, time := now } }

/-- Item i was placed by an observation of this settle (R117). -/
def placedHere (rs : List Ruling) (i : Nat) : Bool :=
  rs.any fun r =>
    match r.verdict with
    | .placed j _ _ => decide (j = i)
    | _ => false

/-- The items the missing sweep visits, in its order (R117; log entry 29). -/
def sweepList (s : State) (g : Nat) (rs : List Ruling) : List Nat :=
  (tfilter (fun i it => decide (it.home = g) && !placedHere rs i) s.store.items).map Prod.fst ++
  (tfilter (fun i it => !decide (it.home = g) && decide (it.placed.map (·.segment) = some g) && !placedHere rs i)
    s.store.items).map Prod.fst

/-- The stage after an observation is done: the next one, the missing sweep, or the summary (R102). -/
def afterResult (s : State) (g : Nat) (rs todo : List Ruling) : Stage :=
  match todo with
  | _ :: _ => .results rs todo
  | [] =>
    match sweepList s g rs with
    | [] => .summary rs
    | is => .sweep rs is

/-- The engine goes on with `w`, pushing a finding if there is one (R115, R116). -/
def goOn (s : State) (w : Settle) (f : Option Finding) : State :=
  match f with
  | some f => settlePush s w f
  | none => s.setSettle w

/-- The results stage for one ruling: the record is written, then the finding is pushed (R112 to R115). -/
def writeResult (s : State) (w : Settle) (seg : Segment) (ctx : Context) (rs todo : List Ruling) (r : Ruling) :
    State :=
  let n := nextCount seg.countNumber
  match r.verdict with
  | .unknown =>
    goOn s { w with stage := afterResult s w.segment rs todo,
                    tallies := { w.tallies with unknown := w.tallies.unknown + 1 } }
      (some (unknownFinding w.segment n ctx.truncated r))
  | .crossRead => goOn s { w with stage := afterResult s w.segment rs todo } none
  | .placed i place moved =>
    match s.item i with
    | none => goOn s { w with stage := afterResult s w.segment rs todo } none
    | some it =>
      let s' := s.setItem i (placedItem w.segment n s.clock.value it r place)
      goOn s' { w with stage := afterResult s' w.segment rs todo, tallies := tallyPlace w.tallies place }
        (placedFinding w.segment n ctx.truncated i it r place moved)

/-! ### The missing sweep -/

/-- The result of an item expected on the shelf and not seen (R118, R119). -/
def unseenResult (truncated : Bool) (it : Item) : CountResult :=
  if it.status = .onShelf then (if truncated then .unverified else .missing) else .absentExpected

/-- The tallies raised by a home item swept with a result (R118). -/
def tallySwept (t : Tallies) : CountResult → Tallies
  | .missing => { t with missing := t.missing + 1 }
  | .unverified => { t with unverified := t.unverified + 1 }
  | .absentExpected => { t with absentExpected := t.absentExpected + 1 }
  | _ => t

/-- A swept item's record, with its placement removed (R118, R119). -/
def sweptItem (it : Item) (result : CountResult) (stamp : Option ResultStamp) : Item :=
  { it with result := result, placed := none, estimate := none, stamp := stamp }

/-- The finding of a swept home item (R118, R145). -/
def sweptFinding (g newCount : Nat) (truncated : Bool) (i : Nat) (it : Item) : CountResult → Option Finding
  | .missing =>
    some { settleFinding .missing g newCount truncated with item := some i, tag := some it.tag, rank := some it.rank }
  | .unverified =>
    some { settleFinding .unverified g newCount truncated with
      item := some i, tag := some it.tag, rank := some it.rank }
  | _ => none

/-- The count number of a segment; 0 for an UNLOADED one (R1). -/
def countNumberOf (s : State) (g : Nat) : Nat :=
  match s.segment g with
  | some r => r.countNumber
  | none => 0

/-- The result of a stray not found again (R119). -/
def lostStrayResult (s : State) (truncated : Bool) (it : Item) : CountResult :=
  if countNumberOf s it.home = 0 then .uncounted else unseenResult truncated it

/-- The REVISED finding of a stray not found again (R119, R145). -/
def lostStrayFinding (g newCount : Nat) (truncated : Bool) (i : Nat) (it : Item) (result : CountResult) : Finding :=
  { settleFinding .revised g newCount truncated with
    item := some i, tag := some it.tag, oldResult := some it.result, newResult := some result, reference := some g }

/-- One item swept (R117 to R119). -/
def sweepItem (s : State) (w : Settle) (seg : Segment) (ctx : Context) (rs : List Ruling) (todo : List Nat)
    (i : Nat) : State :=
  let n := nextCount seg.countNumber
  let w := { w with stage := if todo.isEmpty then .summary rs else .sweep rs todo }
  match s.item i with
  | none => s.setSettle w
  | some it =>
    let stamp : ResultStamp := { count := n, time := s.clock.value }
    if it.home = w.segment then
      if (it.placed.map (·.segment)).getD w.segment = w.segment then
        let result := unseenResult ctx.truncated it
        goOn (s.setItem i (sweptItem it result (some stamp))) { w with tallies := tallySwept w.tallies result }
          (sweptFinding w.segment n ctx.truncated i it result)
      else
        s.setSettle { w with tallies := { w.tallies with locatedElsewhere := w.tallies.locatedElsewhere + 1 } }
    else
      let result := lostStrayResult s ctx.truncated it
      goOn (s.setItem i (sweptItem it result (if result = .uncounted then none else some stamp))) w
        (some (lostStrayFinding w.segment n ctx.truncated i it result))

/-! ### Summary, stall and release -/

/-- An item whose tag the cue may list: OUT_OF_ORDER, STRAY, or relocated (R121). -/
def cueLists (r : Ruling) : Bool :=
  match r.verdict with
  | .placed _ _ (some _) => true
  | .placed _ (.outOfOrder _) _ => true
  | .placed _ .stray _ => true
  | _ => false

/-- Estimate order (R121): known estimates first, lower first, equal ones by item index. -/
def cueBefore (a b : Ruling) : Bool :=
  match a.estimate, b.estimate with
  | some x, some y =>
    decide (x < y) || (decide (x = y) &&
      match a.verdict, b.verdict with
      | .placed i _ _, .placed j _ _ => decide (i < j)
      | _, _ => false)
  | some _, none => true
  | none, _ => false

/-- Up to eight tags, in estimate order; unknown estimates follow in list order (R121). -/
def cueTags (rs : List Ruling) : List Tag :=
  ((sortBy cueBefore (rs.filter cueLists)).take 8).map (·.observation.tag)

/-- The lane that closed a context, with the cause (R78). -/
def closedBy (ctx : Context) : Option (Fin 8 × CloseCause) :=
  match ctx.phase with
  | .closed l cause => some (l, cause)
  | .opened _ => none

/-- After SEGMENT_SETTLED has been pushed: the cue, and the release is next (R121). -/
def afterSummary (s : State) (w : Settle) (rs : List Ruling) : State :=
  let s := s.setSettle { w with stage := .release }
  match settlingContext s w.segment with
  | none => s
  | some (_, ctx) =>
    match closedBy ctx with
    | none => s
    | some (l, _) =>
      if cueEnable s.opts && attached (s.lane l) then
        offerFieldOut s (.cue { lane := l, segment := w.segment, count := nextCount (countNumberOf s w.segment),
                                tallies := w.tallies, tags := cueTags rs })
      else s

/-- The SEGMENT_SETTLED finding (R120, R145). -/
def settledFinding (g newCount : Nat) (ctx : Context) (t : Tallies) : Finding :=
  { settleFinding .segmentSettled g newCount ctx.truncated with
    lane := (closedBy ctx).map Prod.fst, cause := (closedBy ctx).map Prod.snd, tallies := some t }

/-- The summary (R120, R121): the finding is pushed and the cue made, or the engine stalls with it. -/
def summarize (s : State) (w : Settle) (seg : Segment) (ctx : Context) (rs : List Ruling) : State :=
  let w := { w with tallies := { w.tallies with expected := seg.itemCount } }
  let f := settledFinding w.segment (nextCount seg.countNumber) ctx w.tallies
  if s.findq.records.length < Config.settleCeiling then afterSummary (appendSettle s f) w rs
  else settlePush s w f

/-- The resumption of a STALLED engine (R116, R148), where it is evaluated: when the Findings Queue count is at or
below FQ_RESUME the engine is RUNNING, the kept finding is pushed at once, and the settle goes on at the stage that
stands: after a kept SEGMENT_SETTLED with the rest of the summary, and otherwise with its next step. -/
def resumeEngine (s : State) : State :=
  match s.settle.engine with
  | .settling w =>
    match w.kept with
    | some f =>
      if s.findq.records.length ≤ s.opts.fqResume then
        let w := { w with kept := none }
        let s := appendSettle (withEdges s fun s => s.setSettle w) f
        match f.kind, w.stage with
        | .segmentSettled, .summary rs => afterSummary s w rs
        | _, _ => s
      else s
    | none => s
  | _ => s

/-- A QUERY_ITEM that waited on a hold takes the record as the settle left it (R18, R122; DEDUCED, log entry 8). -/
def captureQuery (s : State) : State :=
  match inService s with
  | some (_, .holdWait i) =>
    match s.item i with
    | some it => setHead s fun _ => .inService (.holdCleared i it)
    | none => s
  | _ => s

/-- A context freed at a release: its slots go back to the pool (R83). -/
def freeContextSlots (s : State) (c : Fin 16) (ctx : Context) : State :=
  withEdges s fun s =>
    let s := s.setContext c none
    { s with pool := { s.pool with freeSlots := s.pool.freeSlots + ctx.observations.length } }

/-- The release (R122). -/
def release (s : State) (w : Settle) (seg : Segment) (c : Fin 16) (ctx : Context) : State :=
  let s := s.setSegment w.segment
    { seg with phase := .settled, countNumber := nextCount seg.countNumber,
               last := (closedBy ctx).map fun x => (x.2, w.tallies) }
  let s := flagWaiting (clearHolds (freeContextSlots s c ctx))
  captureQuery { s with settle := { s.settle with engine := .scanning } }

/-- The settle in progress while RUNNING, with its segment record, context number and context; none for records that
name each other wrongly, which no run reaches (log entry 25). -/
def inSettle (s : State) : Option (Settle × Segment × Fin 16 × Context) :=
  match running s with
  | none => none
  | some w =>
    match s.segment w.segment, settlingContext s w.segment with
    | some seg, some (c, ctx) => some (w, seg, c, ctx)
    | _, _ => none

/-! ### The commands -/

/-- The freeze of the next segment. -/
def execSettleFreeze (s : State) : Host.Outcome State Fault Refusal := .next (freeze s)

/-- The estimates stage. -/
def execSettleEstimates (s : State) : Host.Outcome State Fault Refusal :=
  .next <| match inSettle s with
    | some (w, _, _, ctx) =>
      match w.stage with
      | .estimates => s.setSettle { w with stage := .resolution (estimatesOf ctx.observations) }
      | _ => s
    | none => s

/-- The resolution stage. -/
def execSettleResolution (s : State) : Host.Outcome State Fault Refusal :=
  .next <| match inSettle s with
    | some (w, seg, _, ctx) =>
      match w.stage with
      | .resolution es =>
        let rs := resolveAll s w seg.twin ctx.observations es
        s.setSettle { w with stage := .orderChain rs,
                             tallies := { w.tallies with crossReads := countCrossReads rs } }
      | _ => s
    | none => s

/-- The order chain stage. -/
def execSettleOrderChain (s : State) : Host.Outcome State Fault Refusal :=
  .next <| match inSettle s with
    | some (w, _, _, _) =>
      match w.stage with
      | .orderChain rs =>
        let rs' := rs.map (applyChain s (orderChain (candidates s rs)))
        s.setSettle { w with stage := afterResult s w.segment rs' rs' }
      | _ => s
    | none => s

/-- The results stage, for one observation. -/
def execSettleResultWrite (s : State) : Host.Outcome State Fault Refusal :=
  .next <| match inSettle s with
    | some (w, seg, _, ctx) =>
      match w.stage with
      | .results rs (r :: todo) => writeResult s w seg ctx rs todo r
      | _ => s
    | none => s

/-- The resumption of a STALLED engine. -/
def execSettleResume (s : State) : Host.Outcome State Fault Refusal := .next (resumeEngine s)

/-- The missing sweep, for one item. -/
def execSettleSweepItem (s : State) : Host.Outcome State Fault Refusal :=
  .next <| match inSettle s with
    | some (w, seg, _, ctx) =>
      match w.stage with
      | .sweep rs (i :: todo) => sweepItem s w seg ctx rs todo i
      | _ => s
    | none => s

/-- The summary. -/
def execSettleSummary (s : State) : Host.Outcome State Fault Refusal :=
  .next <| match inSettle s with
    | some (w, seg, _, ctx) =>
      match w.stage with
      | .summary rs => summarize s w seg ctx rs
      | _ => s
    | none => s

/-- The release. -/
def execSettleRelease (s : State) : Host.Outcome State Fault Refusal :=
  .next <| match inSettle s with
    | some (w, seg, c, ctx) =>
      match w.stage with
      | .release => release s w seg c ctx
      | _ => s
    | none => s

end Sys2Proof.Machine
end

