-- ==== Sys2Proof/Machine/Wire.lean ====
section
/-! DEFINITION. Frames as bytes: the CRC (R159), the frame structure (R158), the checks of a received frame (R160, R161), and
the layouts of section 9.7 in both directions. -/

namespace Sys2Proof.Machine

/-! ### Numbers and the CRC -/

/-- A number in k bytes, most significant byte first (section 4 of spec/00_scope.md). -/
def be : Nat → Nat → List Byte
  | 0, _ => []
  | k + 1, x => be k (x / 256) ++ [BitVec.ofNat 8 x]

/-- The number that bytes spell, most significant byte first. -/
def fromBE (bs : List Byte) : Nat := bs.foldl (fun n b => n * 256 + b.toNat) 0

/-- A signed number in one byte, two's complement. -/
def signed1 (x : Int) : List Byte := [BitVec.ofInt 8 x]

/-- A signed number in four bytes, two's complement. -/
def signed4 (x : Int) : List Byte := be 4 (BitVec.ofInt 32 x).toNat

/-- A flag (9.7.5). -/
def flagByte (b : Bool) : List Byte := be 1 b.toNat

/-- One bit fed to the CRC register (R159): generator x^16 + x^12 + x^5 + 1. -/
def crcBit (r : BitVec 16) (b : Bool) : BitVec 16 :=
  if r.msb != b then (r <<< 1) ^^^ 0x1021 else r <<< 1

/-- One byte fed to the CRC register, most significant bit first (R159). -/
def crcByte (r : BitVec 16) (b : Byte) : BitVec 16 :=
  [7, 6, 5, 4, 3, 2, 1, 0].foldl (fun r i => crcBit r (b.getLsbD i)) r

/-- The CRC of R159 over bytes in the order they are sent. -/
def crc16 (bs : List Byte) : BitVec 16 := bs.foldl crcByte 0xFFFF

/-- A frame: class, length, payload and check (R158). -/
def frameBytes (cls : Nat) (payload : List Byte) : List Byte :=
  let body := BitVec.ofNat 8 cls :: BitVec.ofNat 8 payload.length :: payload
  body ++ be 2 (crc16 body).toNat

/-! ### Receiving -/

/-- The framing and CRC checks (R160): the class and payload of a frame that passes both. -/
def openFrame (bs : List Byte) : Option (Nat × List Byte) :=
  match bs with
  | cls :: len :: rest =>
    if bs.length < 4 ∨ 244 < bs.length ∨ bs.length ≠ len.toNat + 4 then none
    else if rest.drop len.toNat = be 2 (crc16 (cls :: len :: rest.take len.toNat)).toNat then
      some (cls.toNat, rest.take len.toNat)
    else none
  | _ => none

/-- n sightings of eleven bytes each (9.7.2). -/
def readSightings : Nat → List Byte → List WireSighting
  | 0, _ => []
  | n + 1, bs =>
    { tag := BitVec.ofNat 64 (fromBE (bs.take 8)), rssi := BitVec.ofNat 8 (fromBE ((bs.drop 8).take 1)),
      positioned := decide (32768 ≤ fromBE ((bs.drop 9).take 2)),
      position := fromBE ((bs.drop 9).take 2) % 32768 } :: readSightings n (bs.drop 11)

/-- n events of ten bytes each (9.7.3). -/
def readEvents : Nat → List Byte → List WireEvent
  | 0, _ => []
  | n + 1, bs =>
    { kind := fromBE (bs.take 1), status := fromBE ((bs.drop 1).take 1),
      tag := BitVec.ofNat 64 (fromBE ((bs.drop 2).take 8)) } :: readEvents n (bs.drop 10)

/-- n item records of thirteen bytes each (9.7.4). -/
def readRecords : Nat → List Byte → List WireItem
  | 0, _ => []
  | n + 1, bs =>
    { tag := BitVec.ofNat 64 (fromBE (bs.take 8)), rank := BitVec.ofNat 32 (fromBE ((bs.drop 8).take 4)),
      status := fromBE ((bs.drop 12).take 1) } :: readRecords n (bs.drop 13)

/-- Two bytes from a place on. -/
def word2 (bs : List Byte) (at_ : Nat) : Nat := fromBE ((bs.drop at_).take 2)

/-- One byte at a place. -/
def byte1 (bs : List Byte) (at_ : Nat) : Nat := fromBE ((bs.drop at_).take 1)

/-- The seventeen knots of a LOAD_WEIGHTS (R91). -/
def readKnots (args : List Byte) : Vector (BitVec 16) 17 :=
  Vector.ofFn fun k => BitVec.ofNat 16 (word2 args (2 * k.val))

/-- The argument length of a defined kind (9.7.4); LOAD_ITEMS is laid out by its record count. -/
def argumentLength (kind : Nat) (args : List Byte) : Nat :=
  match kind with
  | 0x02 => 1
  | 0x03 => 6
  | 0x04 => 5
  | 0x05 => 4
  | 0x06 => 7
  | 0x07 => 5 + 13 * byte1 args 4
  | 0x08 => 2
  | 0x09 => 2
  | 0x0A => 2
  | 0x0B => 2
  | 0x0C => 2
  | 0x0D => 2
  | 0x0E => 9
  | 0x0F => 34
  | _ => 0

/-- The request a kind and arguments of the right length spell (9.7.4). -/
def readArguments (kind : Nat) (args : List Byte) : Request :=
  match kind with
  | 0x01 => .identify
  | 0x02 => .readStatus (byte1 args 0)
  | 0x03 => .option (byte1 args 0) (byte1 args 1) (BitVec.ofNat 32 (fromBE (args.drop 2)))
  | 0x04 => .setWindow (byte1 args 0) (word2 args 1) (word2 args 3)
  | 0x05 => .setClock (BitVec.ofNat 32 (fromBE args))
  | 0x06 => .loadBegin (word2 args 0) (word2 args 2) (byte1 args 4) (word2 args 5)
  | 0x07 => .loadItems (word2 args 0) (word2 args 2) (readRecords (byte1 args 4) (args.drop 5))
  | 0x08 => .loadEnd (word2 args 0)
  | 0x09 => .loadAbort (word2 args 0)
  | 0x0A => .unload (word2 args 0)
  | 0x0B => .recount (word2 args 0)
  | 0x0C => .closeSegment (word2 args 0)
  | 0x0D => .querySegment (word2 args 0)
  | 0x0E => .queryItem (byte1 args 0) (BitVec.ofNat 64 (fromBE (args.drop 1)))
  | 0x0F => .loadWeights (readKnots args)
  | 0x10 => .readNotices
  | 0x11 => .restartCount
  | 0x12 => .reset
  | _ => .unknown kind args

/-- A request of a defined kind must have exactly its length; one of an undefined kind passes at any (R161). -/
def readRequest (kind : Nat) (args : List Byte) : Option Request :=
  if definedKind kind then
    if args.length = argumentLength kind args then some (readArguments kind args) else none
  else some (.unknown kind args)

/-- The class and length checks on the Field Link (R160, 9.7.1, 9.7.2). -/
def readFieldFrame (cls : Nat) (payload : List Byte) : Option Instr :=
  match payload with
  | [] => none
  | lane :: rest =>
    if cls = 0x01 then if rest = [] then some (.laneUp lane.toNat) else none
    else if cls = 0x02 then if rest = [] then some (.laneDown lane.toNat) else none
    else if cls = 0x03 then if rest.length = 2 then some (.enterFrame lane.toNat (fromBE rest)) else none
    else if cls = 0x04 then
      match rest with
      | [] => none
      | n :: bs =>
        if bs.length = 11 * n.toNat then some (.sightFrame lane.toNat (readSightings n.toNat bs)) else none
    else if cls = 0x05 then if rest = [] then some (.leaveFrame lane.toNat) else none
    else none

/-- The class and length checks on the Trunk Link (R160, 9.7.1, 9.7.3). -/
def readTrunkFrame (cls : Nat) (payload : List Byte) : Option Instr :=
  if cls = 0x14 then
    match payload with
    | [] => none
    | lane :: body => if body.length ≤ 239 then some (.laneMsg lane.toNat body) else none
  else if cls = 0x21 then
    match payload with
    | tag :: kind :: args => (readRequest kind.toNat args).map (.request tag)
    | _ => none
  else if cls = 0x22 then
    match payload with
    | [] => none
    | n :: bs => if bs.length = 10 * n.toNat then some (.circ (readEvents n.toNat bs)) else none
  else none

/-- What a port makes of the bytes between two delimiters: the command they spell, or none when a check fails and the
frame is discarded (R160, R161). The field checks are those of `Instr.wellFormed`, since bytes fit their fields. -/
def receive (port : Port) (bs : List Byte) : Option Instr :=
  match openFrame bs with
  | none => none
  | some (cls, payload) =>
    let read := match port with
      | .field => readFieldFrame cls payload
      | .trunk => readTrunkFrame cls payload
    match read with
    | none => none
    | some i => if i.wellFormed then some i else none

/-! ### The frames that spell the arrival commands -/

/-- A sighting's eleven bytes (9.7.2). -/
def sightingBytes (w : WireSighting) : List Byte :=
  be 8 w.tag.toNat ++ be 1 w.rssi.toNat ++ be 2 (w.position + if w.positioned then 32768 else 0)

/-- An event's ten bytes (9.7.3). -/
def eventBytes (e : WireEvent) : List Byte := be 1 e.kind ++ be 1 e.status ++ be 8 e.tag.toNat

/-- An item record's thirteen bytes (9.7.4). -/
def recordBytes (r : WireItem) : List Byte := be 8 r.tag.toNat ++ be 4 r.rank.toNat ++ be 1 r.status

/-- A request's arguments (9.7.4). -/
def argumentBytes : Request → List Byte
  | .identify => []
  | .readStatus selector => be 1 selector
  | .option operation code value => be 1 operation ++ be 1 code ++ be 4 value.toNat
  | .setWindow lane base limit => be 1 lane ++ be 2 base ++ be 2 limit
  | .setClock value => be 4 value.toNat
  | .loadBegin g count presence twin => be 2 g ++ be 2 count ++ be 1 presence ++ be 2 twin
  | .loadItems g offset records =>
    be 2 g ++ be 2 offset ++ be 1 records.length ++ (records.map recordBytes).flatten
  | .loadEnd g => be 2 g
  | .loadAbort g => be 2 g
  | .unload g => be 2 g
  | .recount g => be 2 g
  | .closeSegment g => be 2 g
  | .querySegment g => be 2 g
  | .queryItem selector value => be 1 selector ++ be 8 value.toNat
  | .loadWeights knots => (knots.toList.map fun k => be 2 k.toNat).flatten
  | .readNotices => []
  | .restartCount => []
  | .reset => []
  | .unknown _ args => args

/-- The frame that brings an arrival command, with the port it arrives at; none for a command no frame brings. -/
def arrivalFrame : Instr → Option (Port × List Byte)
  | .request tag req => some (.trunk, frameBytes 0x21 (tag :: BitVec.ofNat 8 (requestCode req) :: argumentBytes req))
  | .circ events =>
    some (.trunk, frameBytes 0x22 (BitVec.ofNat 8 events.length :: (events.map eventBytes).flatten))
  | .laneMsg lane body => some (.trunk, frameBytes 0x14 (BitVec.ofNat 8 lane :: body))
  | .laneUp lane => some (.field, frameBytes 0x01 [BitVec.ofNat 8 lane])
  | .laneDown lane => some (.field, frameBytes 0x02 [BitVec.ofNat 8 lane])
  | .enterFrame lane rel => some (.field, frameBytes 0x03 (BitVec.ofNat 8 lane :: be 2 rel))
  | .sightFrame lane sightings =>
    some (.field, frameBytes 0x04
      (BitVec.ofNat 8 lane :: BitVec.ofNat 8 sightings.length :: (sightings.map sightingBytes).flatten))
  | .leaveFrame lane => some (.field, frameBytes 0x05 [BitVec.ofNat 8 lane])
  | _ => none

/-! ### Frames sent -/

/-- An optional field of a reply: a presence byte, then the value, sent as 0 when absent (9.7.5). -/
def optional (width : Nat) (value : Option (List Byte)) : List Byte :=
  match value with
  | some bs => be 1 1 ++ bs
  | none => be 1 0 ++ be width 0

/-- The eleven tallies, two bytes each, in the order of R120 (9.7.5). -/
def tallyBytes (t : Tallies) : List Byte :=
  be 2 t.expected ++ be 2 t.inPlace ++ be 2 t.outOfOrder ++ be 2 t.unplaced ++ be 2 t.missing ++
    be 2 t.unverified ++ be 2 t.absentExpected ++ be 2 t.locatedElsewhere ++ be 2 t.stray ++ be 2 t.unknown ++
    be 2 t.crossReads

/-- A set of 21 conditions in three bytes (9.7.5). -/
def conditionBytes (c : Conditions) : List Byte := be 3 c.toNat

/-- The fields of a finding in the order of its presence bits (9.7.6). -/
def findingFields (f : Finding) : List (Option (List Byte)) :=
  [f.segment.map (be 2), f.count.map (be 1), f.lane.map (fun l => be 1 l.val), f.item.map (be 2),
   f.tag.map (fun t => be 8 t.toNat), f.rank.map (fun r => be 4 r.toNat), f.status.map (fun c => be 1 (circCode c)),
   f.estimate.map (be 2), f.peak.map signed1, f.reference.map (be 2), f.follow.map (be 2),
   f.oldResult.map (fun r => be 1 (resultCode r)), f.newResult.map (fun r => be 1 (resultCode r)),
   f.cause.map (fun c => be 1 (causeCode c)), f.tallies.map tallyBytes, f.event.map (fun e => be 1 (eventCode e))]

/-- A FINDING frame (9.7.3). -/
def findingFrame (f : Finding) : List Byte :=
  frameBytes 0x33 (be 1 (findingCode f.kind) ++ be 4 f.time.toNat ++
    be 1 (bitsToNat [f.conflict, f.truncated]) ++
    be 2 (bitsToNat ((findingFields f).map Option.isSome)) ++ ((findingFields f).filterMap id).flatten)

/-- A NOTICE frame (9.7.3). -/
def noticeFrame (conditions latches : Conditions) : List Byte :=
  frameBytes 0x32 (conditionBytes conditions ++ conditionBytes latches)

/-- A segment record in a QUERY_SEGMENT reply after its state: the fields of R1 in order (R17, 9.7.5). The state
itself comes first in the reply, by R8, and is not sent twice (log entry 11). -/
def segmentBytes (rec : Option Segment) : List Byte :=
  optional 2 ((rec.bind (·.twin)).map (be 2)) ++ optional 2 (rec.map fun r => be 2 r.firstItem) ++
    optional 2 (rec.map fun r => be 2 r.itemCount) ++
    optional 2 (rec.bind fun r => match r.phase with
      | .loading n => some (be 2 n)
      | _ => none) ++
    be 1 ((rec.map (·.countNumber)).getD 0) ++
    optional 1 (rec.bind fun r => match r.phase with
      | .counting c => some (be 1 c.val)
      | .settling c => some (be 1 c.val)
      | _ => none) ++
    optional 1 (rec.bind fun r => r.last.map fun x => be 1 (causeCode x.1)) ++
    optional 22 (rec.bind fun r => r.last.map fun x => tallyBytes x.2)

/-- An item record in a QUERY_ITEM reply: item index, then the fields of R4 in order (R18, 9.7.5). -/
def itemBytes (i : Nat) (it : Item) : List Byte :=
  be 2 i ++ be 8 it.tag.toNat ++ be 4 it.rank.toNat ++ be 2 it.home ++ be 1 (circCode it.status) ++
    optional 4 (it.statusTime.map fun t => be 4 t.toNat) ++ be 1 (resultCode it.result) ++
    optional 2 (it.placed.map fun p => be 2 p.segment) ++ optional 1 (it.placed.map fun p => signed1 p.peak) ++
    optional 2 (it.estimate.map (be 2)) ++ optional 1 (it.stamp.map fun x => be 1 x.count) ++
    optional 4 (it.stamp.map fun x => be 4 x.time.toNat) ++ flagByte it.hold

/-- The figures of one context in use, its number first (R84, R179). The owner lane, the closing lane and the close cause
are optional fields; a FREE context sends nothing (log entry 12). -/
def contextBytes (n : Fin 16) (c : Context) : List Byte :=
  be 1 n.val ++ be 1 (contextCode (some c)) ++ be 2 c.segment ++
    optional 1 (match c.phase with
      | .opened l => some (be 1 l.val)
      | _ => none) ++
    optional 1 (match c.phase with
      | .closed l _ => some (be 1 l.val)
      | _ => none) ++
    optional 1 (match c.phase with
      | .closed _ x => some (be 1 (causeCode x))
      | _ => none) ++
    be 1 (priorCode c.prior) ++ be 4 c.openTime.toNat ++ flagByte c.truncated ++ be 2 c.capDiscards ++
    be 2 c.poolDiscards ++ be 2 c.observations.length

/-- One lane's figures (R179). -/
def laneBytes (f : LaneFigures) : List Byte :=
  be 1 f.state ++ be 2 f.base ++ be 2 f.limit ++ optional 2 (f.current.map (be 2)) ++ be 4 f.voidTally ++
    be 4 f.dropTally ++ be 2 f.entries ++ be 2 f.sightings ++ flagByte f.paused ++ flagByte f.overrun

/-- The device section (R179): the Field Port's figure before the Trunk Port's (log entry 14), and five slot counts, FREE
first (log entry 30). -/
def deviceBytes (f : DeviceFigures) : List Byte :=
  be 4 f.clock.toNat ++ flagByte f.clockSet ++ flagByte f.fieldUp ++ flagByte f.trunkUp ++ be 4 f.fieldDiscards ++
    be 4 f.trunkDiscards ++ be 4 f.fieldOutDrops ++ be 2 f.fieldOutLength ++ be 1 f.pendingPause.toNat ++
    be 1 f.pendingResume.toNat ++ be 4 f.requestDiscards ++ be 2 f.slotsFree ++ be 2 f.slotsPending ++
    be 2 f.slotsInService ++ be 2 f.slotsReplyReady ++ be 2 f.slotsSending ++ conditionBytes f.conditions ++
    conditionBytes f.latches

/-- The capacities an IDENTIFY reply carries, in the order of R178. -/
def capacities : List Nat :=
  [8, Config.segments, Config.itemSlots, Config.itemsPerSegment, 16, Config.poolSlots, Config.contextCap,
   Config.queueEntries, Config.findingsCap, Config.deferredCap, Config.requestSlots, Config.fieldOutCap, 17]

/-- The identity codes of R178. -/
def identityBytes : List Byte := be 2 Config.vendorCode ++ be 2 Config.partCode ++ be 1 Config.revision

/-- The result fields of a reply (9.7.5). An offset within a segment, which 9.7.5 does not list, takes two bytes (DEDUCED,
log entry 31); the word code of an OPTION reply (R176), which it does not list either, takes one (DEDUCED, log entry 32). -/
def bodyBytes : ReplyBody → List Byte
  | .none => []
  | .identity => identityBytes ++ (capacities.map (be 4)).flatten
  | .resetIdentity => identityBytes
  | .device f => deviceBytes f
  | .lanes fs => (fs.map laneBytes).flatten
  | .pool f =>
    be 2 f.freeSlots ++ be 2 f.free ++ be 2 f.opened ++ be 2 f.closed ++ (f.contexts.map fun x => contextBytes x.1 x.2).flatten
  | .settle f =>
    be 1 f.engine ++ optional 2 (f.segment.map (be 2)) ++ be 2 f.queue.length ++ (f.queue.map (be 2)).flatten ++
      be 2 f.findings ++ be 4 f.lostTally ++ flagByte f.findqHigh ++ flagByte f.findqLost
  | .store f =>
    be 4 f.freeCount ++ be 4 f.largestFree ++ be 2 f.deferred ++ be 4 f.applied ++ be 4 f.deferredTally ++
      be 4 f.ignored ++ be 4 f.dropped
  | .knots k => (k.toList.map fun x => be 2 x.toNat).flatten
  | .option code value => be 1 code ++ signed4 value
  | .window base limit => be 2 base ++ be 2 limit
  | .clock value set => be 4 value.toNat ++ flagByte set
  | .firstItem index => be 2 index
  | .largestFree slots => be 4 slots
  | .loadedSoFar count => be 2 count
  | .offset at_ => be 2 at_
  | .itemCount count => be 2 count
  | .duplicate at_ indexed => be 2 at_ ++ optional 2 (indexed.map (be 2))
  | .segment rec => segmentBytes rec
  | .item index rec => itemBytes index rec
  | .closed context observations truncated state =>
    be 1 context.val ++ be 2 observations ++ flagByte truncated ++ be 1 state
  | .notices conditions latches => conditionBytes conditions ++ conditionBytes latches

/-- A REPLY frame (9.7.3): the state of R8 comes before the other result fields. -/
def replyFrame (r : Reply) : List Byte :=
  frameBytes 0x31 (r.tag :: (be 1 r.kind ++ be 1 (statusCode r.status) ++ r.segState.toList ++ bodyBytes r.body))

/-- A PAUSE or RESUME frame (9.7.2). -/
def signalFrame (l : Fin 8) (sig : Signal) : List Byte :=
  frameBytes (match sig with
    | .pause => 0x11
    | .resume => 0x12) (be 1 l.val)

/-- A CUE or forwarded LANE_MSG frame (9.7.2, R169). -/
def outFrameBytes : OutFrame → List Byte
  | .cue c =>
    frameBytes 0x13 (be 1 c.lane.val ++ be 2 c.segment ++ be 1 c.count ++ tallyBytes c.tallies ++
      be 1 c.tags.length ++ (c.tags.map fun t => be 8 t.toNat).flatten)
  | .laneMsg lane body => frameBytes 0x14 (BitVec.ofNat 8 lane :: body)

end Sys2Proof.Machine
end

