-- ==== Sys2Proof/Machine/Ports.lean ====
section
/-! DEFINITION. The two ports: discarded frames (R160), lane messages (R167, R169), the upstream arbiter (R164, R165), the Field
Port's transmitter (R166 to R168), and link state (R162, R163). -/

namespace Sys2Proof.Machine

/-- A frame discarded and counted by a port (R160). -/
def discardAt (p : Port) (s : State) : State :=
  match p with
  | .field => discardField s
  | .trunk => discardTrunk s

/-- A port receives frames: its link is UP and the part is not held in reset (R162, R170). -/
def receives (s : State) (p : Port) : Bool :=
  match p with
  | .field => fieldReceives s
  | .trunk => trunkReceives s

/-! ### The Trunk Port's transmitter -/

/-- A reply is ready to send (R164). -/
def replyIsReady (sl : Slot) : Bool :=
  match sl.state with
  | .replyReady _ => true
  | _ => false

/-- The reply of the slot is being sent (R171). -/
def replyIsSending (sl : Slot) : Bool :=
  match sl.state with
  | .sending _ => true
  | _ => false

/-- The oldest ready reply (R164). -/
def readyReply (s : State) : Option Reply :=
  match s.requests.slots.find? replyIsReady with
  | some sl =>
    match sl.state with
    | .replyReady r => some r
    | _ => none
  | none => none

/-- The Trunk Port begins to send a frame. -/
def State.setTrunkTx (s : State) (tx : Option TrunkTx) : State := { s with trunk := { s.trunk with tx := tx } }

/-- A slot whose ready reply begins to be sent (R171). -/
def startSending (sl : Slot) : Slot :=
  match sl.state with
  | .replyReady r => { sl with state := .sending r }
  | _ => sl

/-- A slot whose reply was cut goes back to REPLY_READY (R162, R171). -/
def stopSending (sl : Slot) : Slot :=
  match sl.state with
  | .sending r => { sl with state := .replyReady r }
  | _ => sl

/-- The selection of the upstream arbiter (R164): the oldest ready reply, else the NOTICE, else the head finding. -/
def selectUpstream (s : State) : State :=
  match readyReply s with
  | some r =>
    (s.setSlots (changeFirst replyIsReady startSending s.requests.slots)).setTrunkTx
      (some { what := .reply, frame := replyFrame r })
  | none =>
    if s.notices.waiting then
      ({ s with notices := { s.notices with waiting := false } }).setTrunkTx
        (some { what := .notice (liveConditions s) s.notices.latches,
                frame := noticeFrame (liveConditions s) s.notices.latches })
    else
      match s.findq.records with
      | f :: _ => s.setTrunkTx (some { what := .finding, frame := findingFrame f })
      | [] => s

/-- A selection takes place only with the link UP and no frame being sent (R164). -/
def maySelectUpstream (s : State) : Bool := trunkReceives s && s.trunk.tx.isNone

/-- The head record leaves the Findings Queue; FINDQ_LOST clears when the count reaches 0 (R149, R152). -/
def popFinding (s : State) : State :=
  withEdges s fun s =>
    { s with findq := { s.findq with records := s.findq.records.tail,
                                     lost := if s.findq.records.tail.isEmpty then false else s.findq.lost } }

/-! ### The Field Port's transmitter -/

/-- The Field Port begins to send a frame, or has sent it. -/
def State.setFieldTx (s : State) (tx : Option FieldTx) : State := { s with field := { s.field with tx := tx } }

/-- A lane's pending control signal (R166). -/
def pendingSignal (s : State) (l : Fin 8) : Option Signal := s.field.signals[l.val]

/-- The selection of the Field Port's transmitter (R168): a pending control signal, round-robin from the control
pointer, else the head of the Field-Out Queue. -/
def selectField (s : State) : State :=
  match firstFrom s.field.controlPtr (fun l => (pendingSignal s l).isSome) with
  | some l =>
    match pendingSignal s l with
    | some sig =>
      let s := handSignal s l none
      ({ s with field := { s.field with controlPtr := l + 1 } }).setFieldTx
        (some { what := .signal l sig, frame := signalFrame l sig })
    | none => s
  | none =>
    match s.field.out with
    | f :: _ => s.setFieldTx (some { what := .queued, frame := outFrameBytes f })
    | [] => s

/-- A selection takes place only with the link UP and no frame being sent (R168). -/
def maySelectField (s : State) : Bool := fieldReceives s && s.field.tx.isNone

/-! ### Link state -/

/-- The frame being sent upstream is cut; what it carried stays where it was, and a cut NOTICE waits again (R162,
R165, R171). A finding stays at the head to be sent again (R149), one that a count restart kept for its frame too (DEDUCED,
log entry 33). -/
def cutTrunk (s : State) : State :=
  match s.trunk.tx with
  | none => s
  | some tx =>
    let s := s.setTrunkTx none
    match tx.what with
    | .reply => s.setSlots (changeFirst replyIsSending stopSending s.requests.slots)
    | .notice _ _ => { s with notices := { s.notices with waiting := true } }
    | .finding => s

/-- The Trunk Link goes DOWN (R162, R163). -/
def trunkDown (receiving : Bool) (s : State) : State :=
  let s := if receiving then discardTrunk s else s
  let s := cutTrunk s
  { s with trunk := { s.trunk with signal := false, up := false } }

/-- The Field Link goes DOWN (R162, R163): every lane is detached in increasing lane number (R26). A control signal being
sent is lost (DEDUCED, log entry 19). -/
def fieldDown (receiving : Bool) (s : State) : State :=
  let s := if receiving then discardField s else s
  let s := { s with field := { s.field with signal := false, up := false, tx := none } }
  detachLanes lanesInOrder s

/-- A port's receiver loses signal or alignment. While the part is held in reset the receiver alone changes: its
state is read at the end of the reset (R162, R170). -/
def linkDown (p : Port) (receiving : Bool) (s : State) : State :=
  match p with
  | .field =>
    if held s then { s with field := { s.field with signal := false } }
    else if s.field.up then fieldDown receiving s else s
  | .trunk =>
    if held s then { s with trunk := { s.trunk with signal := false } }
    else if s.trunk.up then trunkDown receiving s else s

/-- A port's receiver gains signal and alignment (R162, R163). -/
def linkUp (p : Port) (s : State) : State :=
  match p with
  | .field =>
    if held s then { s with field := { s.field with signal := true } }
    else { s with field := { s.field with signal := true, up := true } }
  | .trunk =>
    if held s then { s with trunk := { s.trunk with signal := true } }
    else { s with trunk := { s.trunk with signal := true, up := true } }

/-! ### The commands -/

/-- A LANE_MSG frame (R169): offered unchanged to the Field-Out Queue. -/
def execLaneMsg (lane : Nat) (body : List Byte) (s : State) : Host.Outcome State Fault Refusal :=
  .next (takeTrunkFrame s (decide (lane < 8) && decide (body.length ≤ 239)) fun s =>
    offerFieldOut s (.laneMsg lane body))

/-- A received frame that fails the checks (R160). Bytes that pass every check are no discard and change nothing (log
entries 2, 15 and 17). -/
def execFrameDiscard (p : Port) (what : Received) (s : State) : Host.Outcome State Fault Refusal :=
  .next <| if receives s p then
      match what with
      | .interrupted => discardAt p s
      | .bytes bs => if (receive p bs).isNone then discardAt p s else s
    else s

/-- The upstream arbiter selects. -/
def execUpstreamSelect (s : State) : Host.Outcome State Fault Refusal :=
  .next (if maySelectUpstream s then selectUpstream s else s)

/-- A REPLY frame has been sent in full: its slot is FREE (R171). -/
def execReplySent (s : State) : Host.Outcome State Fault Refusal :=
  .next <| match s.trunk.tx with
    | some { what := .reply, frame := _ } =>
      (s.setSlots (s.requests.slots.filter fun sl => !replyIsSending sl)).setTrunkTx none
    | _ => s

/-- A NOTICE frame has been sent in full (R165; log entry 28). -/
def execNoticeSent (s : State) : Host.Outcome State Fault Refusal :=
  .next <| match s.trunk.tx with
    | some { what := .notice _ _, frame := _ } => s.setTrunkTx none
    | _ => s

/-- A FINDING frame has been sent in full (R149): its record leaves the queue, and the conditions and the resumption
of a STALLED engine are evaluated at the new count (DEDUCED, log entry 6). -/
def execFindingSent (s : State) : Host.Outcome State Fault Refusal :=
  .next <| match s.trunk.tx with
    | some { what := .finding, frame := _ } => resumeEngine (popFinding (s.setTrunkTx none))
    | _ => s

/-- The Field Port's transmitter selects. -/
def execFieldSelect (s : State) : Host.Outcome State Fault Refusal :=
  .next (if maySelectField s then selectField s else s)

/-- A PAUSE or RESUME frame has been sent in full. -/
def execControlSignalSent (s : State) : Host.Outcome State Fault Refusal :=
  .next <| match s.field.tx with
    | some { what := .signal _ _, frame := _ } => s.setFieldTx none
    | _ => s

/-- A CUE or LANE_MSG frame has been sent in full: it leaves the Field-Out Queue (R167). -/
def execFieldOutFrameSent (s : State) : Host.Outcome State Fault Refusal :=
  .next <| match s.field.tx with
    | some { what := .queued, frame := _ } =>
      ({ s with field := { s.field with out := s.field.out.tail } }).setFieldTx none
    | _ => s

/-- A port loses signal or alignment. -/
def execLinkDown (p : Port) (receiving : Bool) (s : State) : Host.Outcome State Fault Refusal :=
  .next (linkDown p receiving s)

/-- A port gains signal and alignment. -/
def execLinkUp (p : Port) (s : State) : Host.Outcome State Fault Refusal := .next (linkUp p s)

end Sys2Proof.Machine
end

