-- ==== Sys2Proof/Machine/Management.lean ====
section
/-! DEFINITION. The Management Unit: the Request Queue's arrivals (R172), IDENTIFY, READ_STATUS, OPTION, SET_CLOCK and
READ_NOTICES, requests of undefined kind, and the Campaign Clock's tick (R174 to R185). -/

namespace Sys2Proof.Machine

/-! ### REQUEST (R172) -/

/-- A REQUEST frame joins a FREE slot as PENDING, or is discarded and counted (R169, R172). -/
def joinRequests (tag : Byte) (req : Request) (s : State) : State :=
  if s.requests.slots.length < Config.requestSlots then
    s.setSlots (s.requests.slots ++ [{ tag := tag, request := req, arrival := s.clock.value, state := .pending }])
  else
    { s with requests := { s.requests with discards := tallyAdd s.requests.discards 1 } }

/-- The port's checks of a REQUEST: the record count of LOAD_ITEMS, and the length that a defined kind must have
(R161). -/
def requestFieldsOk : Request → Bool
  | .loadItems _ _ records => decide (1 ≤ records.length ∧ records.length ≤ 16)
  | .unknown code args => !definedKind code && decide (args.length ≤ 238)
  | _ => true

/-! ### READ_STATUS (R179) -/

/-- The lanes whose pending control signal is the one given, bit n for lane n (9.7.5). -/
def signalBits (s : State) (sig : Signal) : BitVec 8 :=
  BitVec.ofNat 8 (bitsToNat (s.field.signals.toList.map fun x => decide (x = some sig)))

/-- The number of slots in a slot state (R171). -/
def countSlots (s : State) (test : SlotState → Bool) : Nat := s.requests.slots.countP fun sl => test sl.state

/-- Section 0 (R179). The request being answered counts as IN_SERVICE (DEDUCED, log entry 13), and the slots that are FREE
are counted with the four states of an occupied one (DESIGN CHOICE, log entry 30). -/
def deviceFigures (s : State) : DeviceFigures where
  clock := s.clock.value
  clockSet := s.clock.set
  fieldUp := s.field.up
  trunkUp := s.trunk.up
  fieldDiscards := s.field.discards
  trunkDiscards := s.trunk.discards
  fieldOutDrops := s.field.outDrops
  fieldOutLength := s.field.out.length
  pendingPause := signalBits s .pause
  pendingResume := signalBits s .resume
  requestDiscards := s.requests.discards
  slotsFree := Config.requestSlots - s.requests.slots.length
  slotsPending := countSlots s fun st => decide (st = .pending)
  slotsInService := countSlots s fun st => match st with
    | .inService _ => true
    | _ => false
  slotsReplyReady := countSlots s fun st => match st with
    | .replyReady _ => true
    | _ => false
  slotsSending := countSlots s fun st => match st with
    | .sending _ => true
    | _ => false
  conditions := liveConditions s
  latches := s.notices.latches

/-- An entry is a sighting. -/
def isSighting (e : Entry) : Bool :=
  match e.kind with
  | .sight _ _ _ _ => true
  | _ => false

/-- One lane of section 1 (R64, R179). -/
def laneFigures (r : Lane) : LaneFigures where
  state := laneCode r.mode
  base := r.base
  limit := r.limit
  current := currentSegment r.mode
  voidTally := r.voidTally
  dropTally := r.dropTally
  entries := r.queue.length
  sightings := r.queue.countP isSighting
  paused := r.paused
  overrun := r.overrun

/-- The number of contexts in a state, by its code (R84). -/
def countContexts (s : State) (code : Nat) : Nat :=
  s.pool.contexts.toList.countP fun c => decide (contextCode c = code)

/-- The contexts in use among those whose number passes a test, each with its number, in increasing number (R84). -/
def contextsInUse (s : State) (test : Fin 16 → Bool) : List (Fin 16 × Context) :=
  contextsInOrder.filterMap fun c => if test c then (s.context c).map fun ctx => (c, ctx) else none

/-- Sections 2 and 3: the pool's figures, and those of the contexts in use among eight (R84, R179). -/
def poolFigures (s : State) (test : Fin 16 → Bool) : PoolFigures where
  freeSlots := s.pool.freeSlots
  free := countContexts s 0
  opened := countContexts s 1
  closed := countContexts s 2
  contexts := contextsInUse s test

/-- The segment in settle (R100). -/
def segmentInSettle (e : Engine) : Option Nat :=
  match e with
  | .settling w => some w.segment
  | _ => none

/-- Section 4 (R179). -/
def settleFigures (s : State) : SettleFigures where
  engine := engineCode s.settle.engine
  segment := segmentInSettle s.settle.engine
  queue := s.settle.queue
  findings := s.findq.records.length
  lostTally := s.findq.lostTally
  findqHigh := findqHigh s
  findqLost := s.findq.lost

/-- Section 5 (R179). -/
def storeFigures (s : State) : StoreFigures where
  freeCount := s.store.freeCount
  largestFree := s.store.largestFree
  deferred := s.circ.deferred.length
  applied := s.circ.applied
  deferredTally := s.circ.deferredTally
  ignored := s.circ.ignored
  dropped := s.circ.dropped

/-- The figures of a section; none above 6 (R179). -/
def statusSection (s : State) (selector : Nat) : Option ReplyBody :=
  match selector with
  | 0 => some (.device (deviceFigures s))
  | 1 => some (.lanes (s.lanes.recs.toList.map laneFigures))
  | 2 => some (.pool (poolFigures s fun c => decide (c < 8)))
  | 3 => some (.pool (poolFigures s fun c => decide (8 ≤ c)))
  | 4 => some (.settle (settleFigures s))
  | 5 => some (.store (storeFigures s))
  | 6 => some (.knots s.weights)
  | _ => none

/-- READ_STATUS (R179). -/
def readStatus (selector : Nat) (s : State) : State × Answer :=
  match statusSection s selector with
  | some b => (s, { status := .ok, body := b })
  | none => (s, { status := .badArgument })

/-! ### OPTION (R176, R177) -/

/-- The lanes whose enabled bit a write cleared (R27). -/
def disabledLanes (old new : Options) : List (Fin 8) :=
  lanesInOrder.filter fun l => laneEnabled old l && !laneEnabled new l

/-- The thresholds and the end of overrun evaluated for one lane at a write of AF or AE; a DETACHED lane is left
(R54, R57). -/
def evalLaneThresholds (s : State) (l : Fin 8) : State :=
  if (s.lane l).mode = .detached then s else evalPause (evalOverrunEnd s l) l

/-- What the block that reads a word does at its write (R177). The conditions that depend on a word make their edges
at the write. -/
def reactToWrite (old : Options) (w : OptionWord) (s : State) : State :=
  match w with
  | .laneEnable => detachLanes (disabledLanes old s.opts) s
  | .laneAF => lanesInOrder.foldl evalLaneThresholds s
  | .laneAE => lanesInOrder.foldl evalLaneThresholds s
  | .fqResume => resumeEngine s
  | _ => s

/-- A computed value stored in a word, with the reactions; storing the value already stored changes nothing (R176,
R177). A write of an enable word makes no edge of the present values (R183): the conditions do not change. -/
def writeWord (s : State) (w : OptionWord) (v : Int) : State :=
  let new := storeOption s.opts w v
  if new = s.opts then s
  else reactToWrite s.opts w (withEdges s fun s => { s with opts := new })

/-- The value an operation computes; none for READ (R176). -/
def computedValue (operation : Nat) (stored : Int) (value : BitVec 32) : Option Int :=
  match operation with
  | 1 => some value.toInt
  | 2 => some (setBits stored value)
  | 3 => some (clearBits stored value)
  | _ => none

/-- OPTION (R176). -/
def option (operation code : Nat) (value : BitVec 32) (s : State) : State × Answer :=
  match optionWord code with
  | none => (s, { status := .badArgument })
  | some w =>
    if 3 < operation then (s, { status := .badArgument })
    else
      let s' := match computedValue operation (readOption s.opts w) value with
        | some v => writeWord s w v
        | none => s
      (s', { status := .ok, body := .option code (readOption s'.opts w) })

/-- An OPTION request that the row of operation `own` serves: its own operation, or an operation that no row names and
that is refused (R176, log entry 10). -/
def serveOption (own : Nat) (s : State) : State :=
  match nextRequest s with
  | some (.option operation code value) =>
    if operation = own ∨ 3 < operation then serveNow s (option operation code value) else s
  | _ => s

/-! ### SET_CLOCK and READ_NOTICES -/

/-- SET_CLOCK (R181). -/
def setClock (value : Time) (s : State) : State × Answer :=
  if countingOrSettling s then (s, { status := .busy, body := .clock s.clock.value s.clock.set })
  else
    (withEdges s fun s => { s with clock := { value := value, set := true } },
      { status := .ok, body := .clock value true })

/-- READ_NOTICES (R185). -/
def readNotices (s : State) : State × Answer :=
  ({ s with notices := { latches := 0, waiting := false } },
    { status := .ok, body := .notices (liveConditions s) s.notices.latches })

/-! ### The tick -/

/-- A running dwell timer lowered by one tick; at 0 the expiry is due (R39, R40). -/
def tickLane (r : Lane) : Lane :=
  match r.mode with
  | .inSegment g (some n) => { r with mode := .inSegment g (some (n - 1)) }
  | _ => r

/-- One tick of 10 ms (R39, R180). -/
def tick (s : State) : State :=
  { s with clock := { s.clock with value := s.clock.value + 1 },
           lanes := { s.lanes with recs := s.lanes.recs.map tickLane } }

/-! ### The commands -/

/-- IDENTIFY served (R178). -/
def execIdentify (s : State) : Host.Outcome State Fault Refusal :=
  .next <| match nextRequest s with
    | some .identify => serveNow s fun s => (s, { status := .ok, body := .identity })
    | _ => s

/-- READ_STATUS served. -/
def execReadStatus (s : State) : Host.Outcome State Fault Refusal :=
  .next <| match nextRequest s with
    | some (.readStatus selector) => serveNow s (readStatus selector)
    | _ => s

/-- OPTION READ served. -/
def execOptionRead (s : State) : Host.Outcome State Fault Refusal := .next (serveOption 0 s)

/-- OPTION WRITE served. -/
def execOptionWrite (s : State) : Host.Outcome State Fault Refusal := .next (serveOption 1 s)

/-- OPTION SET served. -/
def execOptionSet (s : State) : Host.Outcome State Fault Refusal := .next (serveOption 2 s)

/-- OPTION CLEAR served. -/
def execOptionClear (s : State) : Host.Outcome State Fault Refusal := .next (serveOption 3 s)

/-- SET_CLOCK served. -/
def execSetClock (s : State) : Host.Outcome State Fault Refusal :=
  .next <| match nextRequest s with
    | some (.setClock value) => serveNow s (setClock value)
    | _ => s

/-- READ_NOTICES served. -/
def execReadNotices (s : State) : Host.Outcome State Fault Refusal :=
  .next <| match nextRequest s with
    | some .readNotices => serveNow s readNotices
    | _ => s

/-- A request of undefined kind served (R174). -/
def execUnknownRequest (s : State) : Host.Outcome State Fault Refusal :=
  .next <| match nextRequest s with
    | some (.unknown _ _) => serveNow s fun s => (s, { status := .unknownRequest })
    | _ => s

/-- A REQUEST frame. -/
def execRequest (tag : Byte) (req : Request) (s : State) : Host.Outcome State Fault Refusal :=
  .next (takeTrunkFrame s (requestFieldsOk req) (joinRequests tag req))

/-- A tick of the Campaign Clock; the clock stands at 0 while the part is held in reset (R180; log entry 22). -/
def execCampaignClockTick (s : State) : Host.Outcome State Fault Refusal :=
  .next (if held s then s else tick s)

end Sys2Proof.Machine
end

