-- ==== Sys2Proof/Machine/Resets.lean ====
section
/-! DEFINITION. The full reset (R22, R45, R63, R86, R142, R156, R170, R186) and the count restart (R21, R44, R62, R85, R125,
R141, R155, R170, R187). -/

namespace Sys2Proof.Machine

/-! ### Full reset -/

/-- The contents every block takes at a full reset. The receivers and the reset input are inputs, and the commands
that wait are not the part's (log entry 26). -/
def fullReset (s : State) : State :=
  { State.reset with
    field := { State.reset.field with signal := s.field.signal, up := s.field.up }
    trunk := { State.reset.trunk with signal := s.trunk.signal, up := s.trunk.up }
    resetPin := s.resetPin
    pending := s.pending }

/-- Each link state read from its receiver, at the end of a full reset (R162, R170). -/
def readLinks (s : State) : State :=
  { s with field := { s.field with up := s.field.signal }, trunk := { s.trunk with up := s.trunk.signal } }

/-- A slot's request begins the full reset it asked for (R186). -/
def resetSlot (sl : Slot) : Slot := { sl with state := .inService .reset }

/-! ### Count restart -/

/-- A segment after a count restart (R21); a LOADING one is kept. -/
def restartSegment (r : Segment) : Segment :=
  match r.phase with
  | .loading _ => r
  | _ => { r with phase := .ready, countNumber := 0, last := none }

/-- An item record after a count restart (R21). -/
def restartItem (it : Item) : Item :=
  { it with result := .uncounted, placed := none, estimate := none, stamp := none, hold := false }

/-- The Shelf List Store after a count restart (R21). -/
def restartStore (s : State) : State :=
  { s with store := { s.store with segments := tmap (fun _ r => restartSegment r) s.store.segments,
                                   items := tmap (fun _ it => restartItem it) s.store.items } }

/-- One lane at a count restart (R44, R62): a DETACHED lane is left; a paused one is sent RESUME. -/
def restartLane (s : State) (l : Fin 8) : State :=
  if (s.lane l).mode = .detached then s
  else
    let wasPaused := (s.lane l).paused
    let s := raiseDrop s l (s.lane l).queue.length
    withEdges s fun s =>
      let s := s.setLane l { s.lane l with queue := [], mode := .idle, overrun := false, paused := false }
      if wasPaused then handSignal s l (some .resume) else s

/-- Every context FREE and every slot free (R85). -/
def restartPool (s : State) : State :=
  withEdges s fun s =>
    { s with pool := { contexts := Vector.replicate 16 none, freeSlots := Config.poolSlots } }

/-- The settle in flight aborted and the Settle Queue emptied (R125). -/
def abortSettle (s : State) : State :=
  withEdges s fun s => { s with settle := { queue := [], engine := .idle } }

/-- A FINDING frame is being sent. -/
def findingInProgress (s : State) : Bool :=
  match s.trunk.tx with
  | some { what := .finding, frame := _ } => true
  | _ => false

/-- A frame of the Field-Out Queue is being sent. -/
def fieldOutInProgress (s : State) : Bool :=
  match s.field.tx with
  | some { what := .queued, frame := _ } => true
  | _ => false

/-- The Findings Queue emptied, but for a head record whose frame is being sent; FINDQ_LOST clears (R155). If that frame is
then cut, the record is still at the head and is sent again, after the RESTART_COUNT reply (DEDUCED, log entry 33). -/
def emptyFindings (s : State) : State :=
  withEdges s fun s =>
    { s with findq := { s.findq with records := if findingInProgress s then s.findq.records.take 1 else [],
                                     lost := false } }

/-- The Field-Out Queue emptied, but for a head frame whose sending has begun (R170). If its sending is then cut, it is
still at the head and is sent again (DEDUCED, log entry 33). -/
def emptyFieldOut (s : State) : State :=
  { s with field := { s.field with out := if fieldOutInProgress s then s.field.out.take 1 else [] } }

/-- The effects of a count restart, in the order R187 names: the settle is aborted before the holds clear, the
Deferred Queue applied after the holds clear and the results reset, the Findings Queue emptied after that. -/
def restartCount (s : State) : State :=
  let s := lanesInOrder.foldl restartLane s
  let s := restartStore (restartPool (abortSettle s))
  emptyFieldOut (emptyFindings (drainDeferred s))

/-! ### The commands -/

/-- RESTART_COUNT served: the count restart begins and its effects are made; the request holds the head of the queue
and the admission arbiter stands still until it is complete (R187, log entry 5). -/
def execRestartCount (s : State) : Host.Outcome State Fault Refusal :=
  .next <| match nextRequest s with
    | some .restartCount => restartCount (beginService s .restart)
    | _ => s

/-- The count restart is complete: its reply is made and the arbiter resumes (R187). -/
def execRestartCountComplete (s : State) : Host.Outcome State Fault Refusal :=
  .next <| match inService s with
    | some (_, .restart) => answerHead s { status := .ok }
    | _ => s

/-- RESET served: the full reset begins; every other slot is freed unanswered (R186). -/
def execReset (s : State) : Host.Outcome State Fault Refusal :=
  .next <| match nextRequest s, headSlot s with
    | some .reset, some sl => (fullReset s).setSlots [resetSlot sl]
    | _, _ => s

/-- The full reset that a RESET caused is complete: the links are read, and the reply is made (R186). -/
def execResetComplete (s : State) : Host.Outcome State Fault Refusal :=
  .next <| match inService s with
    | some (_, .reset) => answerHead (readLinks s) { status := .ok, body := .resetIdentity }
    | _ => s

/-- Power-on: a full reset (R170), at whose end the links are read; while the reset input is asserted it does not
end (R180, log entry 21). -/
def execPowerOn (s : State) : Host.Outcome State Fault Refusal :=
  .next (if s.resetPin then fullReset s else readLinks (fullReset s))

/-- The reset input is asserted: a full reset, which lasts until the input is released (R170, R180). -/
def execResetInputAssert (s : State) : Host.Outcome State Fault Refusal :=
  .next { fullReset s with resetPin := true }

/-- The reset input is released: the full reset ends, and the links are read (R162, R180). -/
def execResetInputRelease (s : State) : Host.Outcome State Fault Refusal :=
  .next (if s.resetPin then readLinks { s with resetPin := false } else s)

end Sys2Proof.Machine
end

