-- ==== Sys2Proof/Machine/Dispatch.lean ====
section
/-! DEFINITION. Every command sent to its meaning, one arm per constructor. -/

namespace Sys2Proof.Machine

def exec (i : Instr) (s : State) : Host.Outcome State Fault Refusal :=
  match i with
  | .identify => Sys2Proof.Machine.execIdentify s
  | .readStatus => Sys2Proof.Machine.execReadStatus s
  | .optionRead => Sys2Proof.Machine.execOptionRead s
  | .optionWrite => Sys2Proof.Machine.execOptionWrite s
  | .optionSet => Sys2Proof.Machine.execOptionSet s
  | .optionClear => Sys2Proof.Machine.execOptionClear s
  | .setWindow => Sys2Proof.Machine.execSetWindow s
  | .setClock => Sys2Proof.Machine.execSetClock s
  | .loadBegin => Sys2Proof.Machine.execLoadBegin s
  | .loadItems => Sys2Proof.Machine.execLoadItems s
  | .loadEnd => Sys2Proof.Machine.execLoadEnd s
  | .loadEndCheckDone => Sys2Proof.Machine.execLoadEndCheckDone s
  | .loadAbort => Sys2Proof.Machine.execLoadAbort s
  | .unload => Sys2Proof.Machine.execUnload s
  | .recount => Sys2Proof.Machine.execRecount s
  | .closeSegment => Sys2Proof.Machine.execCloseSegment s
  | .querySegment => Sys2Proof.Machine.execQuerySegment s
  | .queryItem => Sys2Proof.Machine.execQueryItem s
  | .queryItemHoldCleared => Sys2Proof.Machine.execQueryItemHoldCleared s
  | .loadWeights => Sys2Proof.Machine.execLoadWeights s
  | .readNotices => Sys2Proof.Machine.execReadNotices s
  | .restartCount => Sys2Proof.Machine.execRestartCount s
  | .restartCountComplete => Sys2Proof.Machine.execRestartCountComplete s
  | .reset => Sys2Proof.Machine.execReset s
  | .resetComplete => Sys2Proof.Machine.execResetComplete s
  | .unknownRequest => Sys2Proof.Machine.execUnknownRequest s
  | .request tag req => Sys2Proof.Machine.execRequest tag req s
  | .circ events => Sys2Proof.Machine.execCirc events s
  | .laneMsg lane body => Sys2Proof.Machine.execLaneMsg lane body s
  | .laneUp lane => Sys2Proof.Machine.execLaneUp lane s
  | .laneDown lane => Sys2Proof.Machine.execLaneDown lane s
  | .enterFrame lane rel => Sys2Proof.Machine.execEnterFrame lane rel s
  | .leaveFrame lane => Sys2Proof.Machine.execLeaveFrame lane s
  | .sightFrame lane sightings => Sys2Proof.Machine.execSightFrame lane sightings s
  | .frameDiscard port what => Sys2Proof.Machine.execFrameDiscard port what s
  | .drainEnter => Sys2Proof.Machine.execDrainEnter s
  | .drainSight => Sys2Proof.Machine.execDrainSight s
  | .drainLeave => Sys2Proof.Machine.execDrainLeave s
  | .reevaluatePendingEnter => Sys2Proof.Machine.execReevaluatePendingEnter s
  | .dwellTimeout lane => Sys2Proof.Machine.execDwellTimeout lane s
  | .campaignClockTick => Sys2Proof.Machine.execCampaignClockTick s
  | .settleFreeze => Sys2Proof.Machine.execSettleFreeze s
  | .settleEstimates => Sys2Proof.Machine.execSettleEstimates s
  | .settleResolution => Sys2Proof.Machine.execSettleResolution s
  | .settleOrderChain => Sys2Proof.Machine.execSettleOrderChain s
  | .settleResultWrite => Sys2Proof.Machine.execSettleResultWrite s
  | .settleResume => Sys2Proof.Machine.execSettleResume s
  | .settleSweepItem => Sys2Proof.Machine.execSettleSweepItem s
  | .settleSummary => Sys2Proof.Machine.execSettleSummary s
  | .settleRelease => Sys2Proof.Machine.execSettleRelease s
  | .deferredScan => Sys2Proof.Machine.execDeferredScan s
  | .upstreamSelect => Sys2Proof.Machine.execUpstreamSelect s
  | .replySent => Sys2Proof.Machine.execReplySent s
  | .noticeSent => Sys2Proof.Machine.execNoticeSent s
  | .findingSent => Sys2Proof.Machine.execFindingSent s
  | .fieldSelect => Sys2Proof.Machine.execFieldSelect s
  | .controlSignalSent => Sys2Proof.Machine.execControlSignalSent s
  | .fieldOutFrameSent => Sys2Proof.Machine.execFieldOutFrameSent s
  | .linkDown port receiving => Sys2Proof.Machine.execLinkDown port receiving s
  | .linkUp port => Sys2Proof.Machine.execLinkUp port s
  | .powerOn => Sys2Proof.Machine.execPowerOn s
  | .resetInputAssert => Sys2Proof.Machine.execResetInputAssert s
  | .resetInputRelease => Sys2Proof.Machine.execResetInputRelease s

end Sys2Proof.Machine
end

