-- ==== Sys2Proof/Machine/Step.lean ====
section
/-! DEFINITION. One step: the command at the front of the queue is taken and run (log entry 1). -/

namespace Sys2Proof.Machine

/-- The commands that wait, replaced. -/
def State.setPending (s : State) (cs : List Instr) : State := { s with pending := cs }

/-- The front command of the queue runs on the state with the queue's rest; with nothing waiting the block idles
(log entry 1). -/
def step (s : State) : Host.Outcome State Fault Refusal :=
  match s.pending with
  | [] => .next s
  | c :: rest => exec c (s.setPending rest)

/-- The command a word spells, put at the front of the queue. -/
def State.withFetchWord (s : State) (nbits w : Nat) : State :=
  match decodeTableWord nbits w with
  | some c => s.setPending (c :: s.pending)
  | none => s

end Sys2Proof.Machine
end

