-- ==== Sys2Proof/Safety.lean ====
section
/-! DEFINITION. What counts as a sound state of the part, block by block, and the words in which claims about served requests
are said. -/

namespace Sys2Proof.Machine

/-! ### Sound states -/

/-- The three tables of the Shelf List Store are in their form: keys strictly rising. -/
structure TablesOk (s : State) : Prop where
  segments : Table.wf s.store.segments
  items : Table.wf s.store.items
  tagIndex : Table.wf s.store.tagIndex

/-- The observations a context holds; a FREE one holds none. -/
def heldBy (c : Option Context) : Nat := ((c.map fun c => c.observations.length)).getD 0

/-- R67: the free observation slots and the observations of all contexts number 4,096, and no context holds more than
640. -/
structure PoolOk (s : State) : Prop where
  conserved : s.pool.freeSlots + (s.pool.contexts.toList.map heldBy).sum = 4096
  capped : ∀ c : Fin 16, heldBy (s.context c) ≤ 640

/-- R175: every numeric option word lies in its range. -/
structure OptionsOk (o : Options) : Prop where
  laneAF : 2 ≤ o.laneAF ∧ o.laneAF ≤ 60
  laneAE : o.laneAE < o.laneAF
  dwell : ∀ l : Fin 8, o.dwell[l.val] ≤ 60000
  fqHigh : 1 ≤ o.fqHigh ∧ o.fqHigh ≤ 256
  fqResume : o.fqResume ≤ 239
  xread : -100 ≤ o.xread ∧ o.xread ≤ -20
  revise : 0 ≤ o.revise ∧ o.revise ≤ 30
  poolLow : o.poolLow ≤ 4096

/-- The bounds of the queues: R46, R132, R147, R167, R171. -/
structure QueuesOk (s : State) : Prop where
  sighting : ∀ l : Fin 8, (s.lane l).queue.length ≤ 64 ∧ (s.lane l).queue.countP isSighting ≤ 60
  deferred : s.circ.deferred.length ≤ 32
  findings : s.findq.records.length ≤ 256
  fieldOut : s.field.out.length ≤ 16
  requests : s.requests.slots.length ≤ 8

/-- The runs of the Item Table (R1, R3): every segment number is one of the 2,048, every run has 1..512 slots of the
table, no two runs share a slot, and the two free figures are those of the slots outside every run. -/
structure RunsOk (s : State) : Prop where
  numbers : ∀ g r, s.segment g = some r → g < 2048
  counts : ∀ g r, s.segment g = some r → 1 ≤ r.itemCount ∧ r.itemCount ≤ 512
  inside : ∀ g r, s.segment g = some r → r.firstItem + r.itemCount ≤ 65536
  apart : ∀ g h r q i, s.segment g = some r → s.segment h = some q → inRun r i = true → inRun q i = true → g = h
  freeCount : s.store.freeCount + (s.store.segments.map fun e => e.2.itemCount).sum = 65536
  largestFree : s.store.largestFree = longestFree s.store.segments

/-- The segment's phase names the context. -/
def countsIn (s : State) (g : Nat) (c : Fin 16) : Prop := ∃ r, s.segment g = some r ∧ r.phase = .counting c

/-- The segment is SETTLING and its phase names the context. -/
def settlesIn (s : State) (g : Nat) (c : Fin 16) : Prop := ∃ r, s.segment g = some r ∧ r.phase = .settling c

/-- R24 and R66: lanes in a segment, contexts in use, and segments COUNTING or SETTLING are bound to each other. -/
structure ClaimsOk (s : State) : Prop where
  lane : ∀ l g d, (s.lane l).mode = .inSegment g d →
    ∃ c ctx, countsIn s g c ∧ s.context c = some ctx ∧ ctx.segment = g ∧ ctx.phase = .opened l
  opened : ∀ c ctx l, s.context c = some ctx → ctx.phase = .opened l →
    countsIn s ctx.segment c ∧ ∃ d, (s.lane l).mode = .inSegment ctx.segment d
  closed : ∀ c ctx l cause, s.context c = some ctx → ctx.phase = .closed l cause → settlesIn s ctx.segment c
  counting : ∀ g c, countsIn s g c → ∃ ctx l, s.context c = some ctx ∧ ctx.segment = g ∧ ctx.phase = .opened l
  settling : ∀ g c, settlesIn s g c →
    ∃ ctx l cause, s.context c = some ctx ∧ ctx.segment = g ∧ ctx.phase = .closed l cause

/-- The segment in settle, as a list of none or one. -/
def inSettleList (e : Engine) : List Nat :=
  match e with
  | .settling w => [w.segment]
  | _ => []

/-- R79, R100 and R101: the segment in settle and the Settle Queue together hold every SETTLING segment once and no
other, an IDLE engine has nothing queued, and an engine that takes has something to take. -/
structure SettleOk (s : State) : Prop where
  once : (inSettleList s.settle.engine ++ s.settle.queue).Nodup
  holds : ∀ g, g ∈ inSettleList s.settle.engine ++ s.settle.queue ↔ ∃ c, settlesIn s g c
  idle : s.settle.engine = .idle → s.settle.queue = []
  taking : s.settle.engine = .taking → s.settle.queue ≠ []

/-- The ranges of the tallies: R29, R140, R152, R160, R167, R172. -/
structure TalliesOk (s : State) : Prop where
  lanes : ∀ l : Fin 8, (s.lane l).voidTally ≤ 4294967295 ∧ (s.lane l).dropTally ≤ 4294967295
  circ : s.circ.applied ≤ 4294967295 ∧ s.circ.deferredTally ≤ 4294967295 ∧ s.circ.ignored ≤ 4294967295 ∧
    s.circ.dropped ≤ 4294967295
  findings : s.findq.lostTally ≤ 4294967295
  ports : s.field.discards ≤ 4294967295 ∧ s.trunk.discards ≤ 4294967295 ∧ s.field.outDrops ≤ 4294967295
  requests : s.requests.discards ≤ 4294967295

/-! ### Words for served requests (R173, R174) -/

/-- A slot whose reply has been made. -/
def Slot.answered (sl : Slot) : Prop := (∃ r, sl.state = .replyReady r) ∨ (∃ r, sl.state = .sending r)

/-- The request of slot `sl` is the next to be served: it is PENDING, and every older slot is answered. -/
structure Waiting (s : State) (before : List Slot) (sl : Slot) (after : List Slot) (req : Request) : Prop where
  slots : s.requests.slots = before ++ sl :: after
  older : ∀ x ∈ before, x.answered
  pending : sl.state = .pending
  request : sl.request = req

/-- The request of slot `sl` is IN_SERVICE with its work, and every older slot is answered. -/
structure InWork (s : State) (before : List Slot) (sl : Slot) (after : List Slot) (req : Request) (w : Work) :
    Prop where
  slots : s.requests.slots = before ++ sl :: after
  older : ∀ x ∈ before, x.answered
  work : sl.state = .inService w
  request : sl.request = req

/-- In t the slot is REPLY_READY with a reply that echoes its tag and carries the kind code, status, segment state and
result fields given, and the rest of the Request Queue is as in s. -/
def Answers (s t : State) (before : List Slot) (sl : Slot) (after : List Slot) (kind : Nat) (status : Status)
    (segState : Option Byte) (body : ReplyBody) : Prop :=
  t.requests = { s.requests with
    slots := before ++ { sl with state := .replyReady { tag := sl.tag, kind := kind, status := status,
                                                        segState := segState, body := body } } :: after }

/-- In t the slot is IN_SERVICE with its work, and the rest of the Request Queue is as in s. -/
def Begins (s t : State) (before : List Slot) (sl : Slot) (after : List Slot) (w : Work) : Prop :=
  t.requests = { s.requests with slots := before ++ { sl with state := .inService w } :: after }

/-- A segment that is COUNTING or SETTLING. -/
def Segment.busy (r : Segment) : Prop := (∃ c, r.phase = .counting c) ∨ (∃ c, r.phase = .settling c)

/-- The state code that a reply carries for segment g, of the 2,048, as it stands in s (R8, 9.7.5). -/
def stateByte (s : State) (g : Nat) : Option Byte := some (BitVec.ofNat 8 (segmentCode (s.segment g)))

/-- The request is answered and nothing but its slot changes. -/
def AnswersOnly (s t : State) (before : List Slot) (sl : Slot) (after : List Slot) (kind : Nat) (status : Status)
    (segState : Option Byte) (body : ReplyBody) : Prop :=
  Answers s t before sl after kind status segState body ∧ t = { s with requests := t.requests }

/-- A Shelf List request for segment g is refused and changes nothing but its slot; the reply carries the segment's
state (R8), and for a number above 2,047 a free value (log entry 9). -/
def Refuses (s t : State) (before : List Slot) (sl : Slot) (after : List Slot) (kind : Nat) (status : Status) (g : Nat)
    (body : ReplyBody) : Prop :=
  ∃ b, (g < 2048 → b = stateByte s g) ∧ AnswersOnly s t before sl after kind status b body

/-- The rank a LOAD_ITEMS record must not fall below: that of the record before it, or of the last record written
(R11); none for the first record of a run. -/
def rankBefore (s : State) (r : Segment) (loaded : Nat) (records : List WireItem) (j : Nat) : Option Rank :=
  if j = 0 then if loaded = 0 then none else (s.item (r.firstItem + (loaded - 1))).map Item.rank
  else (records[j - 1]?).map WireItem.rank

/-- Record j has a rank below the one before it (R11). -/
def Drops (s : State) (r : Segment) (loaded : Nat) (records : List WireItem) (j : Nat) : Prop :=
  ∃ x q, records[j]? = some x ∧ rankBefore s r loaded records j = some q ∧ x.rank < q

/-- The item in slot i of the run offends the duplicate check: its tag is indexed, or stands at a lower offset (R13). -/
def Offends (s : State) (r : Segment) (i : Nat) : Prop :=
  inRun r i = true ∧ ∃ it, s.item i = some it ∧
    ((∃ j, s.lookup it.tag = some j) ∨
      ∃ k other, k < i ∧ inRun r k = true ∧ s.item k = some other ∧ other.tag = it.tag)

/-- Segment g, with record r, has been given back: it is UNLOADED, its slots are unwritten and free, and no other
segment and no other slot has changed (R1, R3). -/
structure GivenBack (s t : State) (g : Nat) (r : Segment) : Prop where
  unloaded : t.segment g = none
  segments : ∀ h, h ≠ g → t.segment h = s.segment h
  slots : ∀ i, t.item i = if inRun r i then none else s.item i
  free : t.store.freeCount = s.store.freeCount + r.itemCount

/-! ### Words for the other commands -/

/-- The port takes frames: its link is UP and the part is held in no reset (R162, R170, R186). -/
def Receives (s : State) (p : Port) : Prop :=
  (match p with
    | .field => s.field.up = true
    | .trunk => s.trunk.up = true) ∧
  s.resetPin = false ∧ ∀ sl ∈ s.requests.slots, sl.state ≠ .inService .reset

/-- A tally raised by n, holding at 4,294,967,295. -/
def raised (x n : Nat) : Nat := min 4294967295 (x + n)

/-- In t the finding has been pushed by a producer other than the Settle Engine: it joined the tail below 256 records,
and was lost and counted otherwise (R147, R152). -/
def Pushed (s t : State) (f : Finding) : Prop :=
  (s.findq.records.length < 256 → t.findq = { s.findq with records := s.findq.records ++ [f] }) ∧
  (256 ≤ s.findq.records.length →
    t.findq = { s.findq with lost := true, lostTally := raised s.findq.lostTally 1 })

/-- The value of the option word with the code given (R175). -/
def wordValue (o : Options) (code : Nat) : Option Int :=
  match code with
  | 0x00 => some o.general.toNat
  | 0x01 => some o.laneEnable.toNat
  | 0x02 => some o.laneAF
  | 0x03 => some o.laneAE
  | 0x04 => some o.dwell[0]
  | 0x05 => some o.dwell[1]
  | 0x06 => some o.dwell[2]
  | 0x07 => some o.dwell[3]
  | 0x08 => some o.dwell[4]
  | 0x09 => some o.dwell[5]
  | 0x0A => some o.dwell[6]
  | 0x0B => some o.dwell[7]
  | 0x0C => some o.fqHigh
  | 0x0D => some o.fqResume
  | 0x0E => some o.xread
  | 0x0F => some o.revise
  | 0x10 => some o.poolLow
  | 0x11 => some o.noticeRise.toNat
  | 0x12 => some o.noticeFall.toNat
  | _ => none

/-- What a computed value is stored as in the word with the code given (R175, R176): clamped to a numeric word's range,
cut to a bit word's width. -/
def storedAs (o : Options) (code : Nat) (v : Int) : Int :=
  match code with
  | 0x00 => v % 8
  | 0x01 => v % 256
  | 0x02 => max 2 (min 60 v)
  | 0x03 => max 0 (min ((o.laneAF : Int) - 1) v)
  | 0x0C => max 1 (min 256 v)
  | 0x0D => max 0 (min 239 v)
  | 0x0E => max (-100) (min (-20) v)
  | 0x0F => max 0 (min 30 v)
  | 0x10 => max 0 (min 4096 v)
  | 0x11 => v % 2097152
  | 0x12 => v % 2097152
  | _ => max 0 (min 60000 v)

/-- A lane may be served by the admission arbiter (R30). -/
def Eligible (s : State) (l : Fin 8) : Prop :=
  match (s.lane l).mode with
  | .detached => False
  | .waiting _ _ flag => flag = true
  | _ => (s.lane l).queue ≠ []

/-- The admission arbiter, not stopped by a count restart, serves lane l next: it is the first eligible lane from the
next-lane pointer on (R30, R44). -/
structure ServesNext (s : State) (l : Fin 8) : Prop where
  notStopped : ∀ sl ∈ s.requests.slots, sl.state ≠ .inService .restart
  eligible : Eligible s l
  first : ∀ k : Fin 8, k < l - s.lanes.next → ¬ Eligible s (s.lanes.next + k)

/-- The paused flag after the thresholds are evaluated at n entries (R55, R56). -/
def pausedAt (o : Options) (paused : Bool) (n : Nat) : Bool :=
  if paused then decide (o.laneAE < n) else decide (o.laneAF ≤ n)

/-- The pending control signal after the paused flag went from p to q (R55, R56, R166). -/
def signalAt (p q : Bool) (pending : Option Signal) : Option Signal :=
  if p = q then pending else if q then some .pause else some .resume

/-- The context c is OPEN with contents ctx, owned by lane l, and its segment is COUNTING in it (R66). -/
structure OpenIn (s : State) (c : Fin 16) (ctx : Context) (l : Fin 8) : Prop where
  context : s.context c = some ctx
  phase : ctx.phase = .opened l
  counting : countsIn s ctx.segment c

/-- The phase of the state a segment was counted from. -/
def priorOf (p : Prior) : Phase :=
  match p with
  | .ready => .ready
  | .settled => .settled

/-- What a close of context c, with contents ctx and owner l, leaves (R78, R79, R82): with no observation the context is
FREE and the segment in its prior state; with one or more the context is CLOSED, the segment SETTLING and at the tail
of the Settle Queue, which an IDLE engine takes up. An empty close sets the re-evaluation flag of every WAITING lane (R34). No other context and no other segment changes, and no
observation slot is freed. -/
structure Closes (s t : State) (c : Fin 16) (ctx : Context) (l : Fin 8) (cause : CloseCause) : Prop where
  empty : ctx.observations = [] →
    t.context c = none ∧ t.settle = s.settle ∧
      t.segment ctx.segment = (s.segment ctx.segment).map fun r => { r with phase := priorOf ctx.prior }
  handOff : ctx.observations ≠ [] →
    t.context c = some { ctx with phase := .closed l cause } ∧
      t.settle.queue = s.settle.queue ++ [ctx.segment] ∧
      t.settle.engine = (if s.settle.engine = .idle then .taking else s.settle.engine) ∧
      t.segment ctx.segment = (s.segment ctx.segment).map fun r => { r with phase := .settling c }
  contexts : ∀ d, d ≠ c → t.context d = s.context d
  segments : ∀ g, g ≠ ctx.segment → t.segment g = s.segment g
  slots : t.pool.freeSlots = s.pool.freeSlots
  store : t.store = { s.store with segments := t.store.segments }
  others : ∀ m, m ≠ l → t.lane m = if ctx.observations = [] then flagLane (s.lane m) else s.lane m

/-- The segment a close of lane l's context hands to the Settle Queue: that of the OPEN context it owns, if the context holds
an observation (R79). -/
def handedOff (s : State) (l : Fin 8) : Option Nat :=
  match (s.lane l).mode with
  | .inSegment g _ =>
    if ∃ c : Fin 16, ((s.context c).map fun ctx =>
        decide (ctx.segment = g ∧ ctx.phase = .opened l ∧ ctx.observations ≠ [])) = some true then some g
    else none
  | _ => none

/-- In t the lanes for which `gone` holds have been detached with cause LANE_DOWN, in increasing lane number (R26): the
queue of each is discarded into its drop tally, its flags and its control signal are gone, and its context is closed as
R78, R79 and R82 lay down. An empty close sets the re-evaluation flag of every WAITING lane (R34). Nothing else of the
lanes, the contexts, the segments and the Settle Queue changes. -/
structure Detaches (s t : State) (gone : Fin 8 → Bool) : Prop where
  detached : ∀ l, gone l = true → (s.lane l).mode ≠ .detached → t.field.signals[l.val] = none ∧
    t.lane l = { s.lane l with mode := .detached, queue := [], paused := false, overrun := false,
                               dropTally := raised (s.lane l).dropTally (s.lane l).queue.length }
  signals : ∀ l, gone l = false ∨ (s.lane l).mode = .detached → t.field.signals[l.val] = s.field.signals[l.val]
  flagged : ∀ l m c ctx, gone l = false → gone m = true → s.context c = some ctx → ctx.phase = .opened m →
    ctx.observations = [] → t.lane l = flagLane (s.lane l)
  same : ∀ l, gone l = false ∨ (s.lane l).mode = .detached →
    (∀ m c ctx, gone m = true → s.context c = some ctx → ctx.phase = .opened m → ctx.observations ≠ []) →
    t.lane l = s.lane l
  stays : ∀ l, gone l = true → (s.lane l).mode = .detached → t.lane l = s.lane l
  contexts : ∀ c ctx m, gone m = true → s.context c = some ctx → ctx.phase = .opened m →
    t.context c = (if ctx.observations = [] then none else some { ctx with phase := .closed m .laneDown }) ∧
    t.segment ctx.segment = (s.segment ctx.segment).map fun r =>
      { r with phase := if ctx.observations = [] then priorOf ctx.prior else .settling c }
  otherContexts : ∀ c, (∀ ctx m, gone m = true → s.context c = some ctx → ctx.phase ≠ .opened m) →
    t.context c = s.context c
  otherSegments : ∀ g, (∀ c ctx m, gone m = true → s.context c = some ctx → ctx.phase = .opened m → ctx.segment ≠ g) →
    t.segment g = s.segment g
  queue : t.settle.queue = s.settle.queue ++ ((List.finRange 8).filter gone).filterMap (handedOff s)
  engine : t.settle.engine =
    if s.settle.engine = .idle ∧ t.settle.queue ≠ s.settle.queue then .taking else s.settle.engine
  pointer : t.lanes.next = s.lanes.next
  slots : t.pool.freeSlots = s.pool.freeSlots
  store : t.store = { s.store with segments := t.store.segments }
  field : t.field = { s.field with signals := t.field.signals }

/-- What a paused flag and a pending control signal become as the thresholds are evaluated at each of the entry counts
given, in order (R55, R56, R166). -/
def pausesAt (o : Options) (counts : List Nat) (paused : Bool) (pending : Option Signal) : Bool × Option Signal :=
  counts.foldl (fun x n => (pausedAt o x.1 n, signalAt x.1 (pausedAt o x.1 n) x.2)) (paused, pending)

/-- Every lane but l is as in s. -/
def OtherLanes (s t : State) (l : Fin 8) : Prop := ∀ m, m ≠ l → t.lane m = s.lane m

/-- Lane l is served next and e is the entry drained, with `rest` behind it (R30, R59). -/
structure Drains (s : State) (l : Fin 8) (e : Entry) (rest : List Entry) : Prop where
  next : ServesNext s l
  notWaiting : ∀ rel gap flag, (s.lane l).mode ≠ .waiting rel gap flag
  queue : (s.lane l).queue = e :: rest

/-- Lane l is IN_SEGMENT in segment g, and owns context c with contents ctx (R24). -/
structure CountsIn (s : State) (l : Fin 8) (g : Nat) (c : Fin 16) (ctx : Context) : Prop where
  lane : ∃ d, (s.lane l).mode = .inSegment g d
  owned : OpenIn s c ctx l
  segment : ctx.segment = g

/-- Lane l owns no context: it is in none of the counted segments. -/
def NotCounting (s : State) (l : Fin 8) : Prop := ∀ g d, (s.lane l).mode ≠ .inSegment g d

/-- The state from which an ENTER of lane l is evaluated: s itself, and for a lane that was IN_SEGMENT a state in which
its context has been closed with cause NEW_ENTER (R31). Window, options, clock and Findings Queue are those of s. -/
def EntersFrom (s u : State) (l : Fin 8) : Prop :=
  (NotCounting s l ∧ u = s) ∨
    ∃ g c ctx, CountsIn s l g c ctx ∧ Closes s u c ctx l .newEnter ∧ u.lane l = { s.lane l with mode := .idle } ∧
      u = { s with store := u.store, pool := u.pool, settle := u.settle, lanes := u.lanes }

/-- An ENTER with relative segment rel and a gap mark is evaluated for lane l: the arbiter drains it, or serves the lane
WAITING with it and its re-evaluation flag set (R30, R34). -/
def EnterServed (s : State) (i : Instr) (l : Fin 8) (rel : Nat) (gap : Bool) : Prop :=
  (i = .drainEnter ∧ ∃ rest, Drains s l { kind := .enter rel, gap := gap } rest) ∨
    (i = .reevaluatePendingEnter ∧ ServesNext s l ∧ (s.lane l).mode = .waiting rel gap true)

/-- The segment may be counted from its state (R32): READY, or SETTLED with RECOUNT_BY_LANE set. -/
def Countable (u : State) (r : Segment) (prior : Prior) : Prop :=
  (r.phase = .ready ∧ prior = .ready) ∨
    (r.phase = .settled ∧ u.opts.general.getLsbD 1 = true ∧ prior = .settled)

/-- c is the lowest-numbered FREE context (R69). -/
def LowestFree (u : State) (c : Fin 16) : Prop := u.context c = none ∧ ∀ d, d < c → u.context d ≠ none

/-- The dwell timer as a start sets it (R39). -/
def dwellOf (o : Options) (l : Fin 8) : Option Nat := if o.dwell[l.val] = 0 then none else some o.dwell[l.val]

/-- The dwell timer as a restart leaves it: a setting of 0 lets it run on (R39). -/
def dwellAfter (o : Options) (l : Fin 8) (timer : Option Nat) : Option Nat :=
  if o.dwell[l.val] = 0 then timer else some o.dwell[l.val]

/-- No segment, context, slot or queued settle changes between u and t. -/
def CountsStay (u t : State) : Prop := t.store = u.store ∧ t.pool = u.pool ∧ t.settle = u.settle

/-- What every ENTER evaluated for lane l leaves as it was: the next-lane pointer has moved past the lane (R30), the lane's
window and tallies stay, and for a pending ENTER its queue and flags and the whole Field Port; the Item Table and the Tag
Index stay, and so do the requests, the Circulation Unit, the Trunk Port, the clock, the options and the knots. -/
structure EnterKeeps (s t : State) (i : Instr) (l : Fin 8) : Prop where
  pointer : t.lanes.next = l + 1
  lane : t.lane l = { s.lane l with mode := (t.lane l).mode, queue := (t.lane l).queue, paused := (t.lane l).paused,
                                    overrun := (t.lane l).overrun }
  pending : i = .reevaluatePendingEnter →
    t.lane l = { s.lane l with mode := (t.lane l).mode } ∧ t.field = s.field
  port : t.field = { s.field with signals := t.field.signals }
  signals : ∀ m : Fin 8, m ≠ l → t.field.signals[m.val] = s.field.signals[m.val]
  store : t.store = { s.store with segments := t.store.segments }
  rest : t = { s with lanes := t.lanes, field := t.field, store := t.store, pool := t.pool, settle := t.settle,
                      findq := t.findq, notices := t.notices }

/-- The finding that refuses an ENTER of lane l with relative segment rel (R31 to R33), if it is refused: outside the
window, a segment COUNTING, or a segment that may not be counted. -/
def enterRefusal (u : State) (l : Fin 8) (rel : Nat) : Option Finding :=
  if (u.lane l).limit ≤ (u.lane l).base + rel then
    some { kind := .rangeRefused, time := u.clock.value, lane := some l, reference := some rel }
  else
    match (u.segment ((u.lane l).base + rel)).map Segment.phase with
    | some (.counting _) =>
      some { kind := .claimConflict, time := u.clock.value, lane := some l, segment := some ((u.lane l).base + rel) }
    | some (.settling _) => none
    | some .ready => none
    | some .settled =>
      if u.opts.general.getLsbD 1 then none
      else some { kind := .segmentNotReady, time := u.clock.value, lane := some l,
                  segment := some ((u.lane l).base + rel) }
    | _ =>
      some { kind := .segmentNotReady, time := u.clock.value, lane := some l,
             segment := some ((u.lane l).base + rel) }

/-- The context after a sighting has been admitted to it: merged, discarded at the cap, discarded for an empty pool, or
forming an observation, in the order of R70 (R71, R72, R74, R75). -/
def sighted (s : State) (ctx : Context) (tag : Tag) (rssi : Int) (position : Option Nat) (arrival : Time) : Context :=
  let w := weight s.weights rssi
  if ∃ o ∈ ctx.observations, o.tag = tag then
    { ctx with observations := ctx.observations.map fun o =>
        if o.tag ≠ tag then o
        else
          { o with count := min 65535 (o.count + 1),
                   w := o.w + if o.count < 65535 ∧ position.isSome then w else 0,
                   p := o.p + if o.count < 65535 then w * position.getD 0 else 0,
                   peak := max o.peak rssi, lastTime := arrival } }
  else if 640 ≤ ctx.observations.length then
    { ctx with capDiscards := min 65535 (ctx.capDiscards + 1),
               truncated := ctx.truncated || decide (ctx.capDiscards = 0) }
  else if s.pool.freeSlots = 0 then
    { ctx with poolDiscards := min 65535 (ctx.poolDiscards + 1),
               truncated := ctx.truncated || decide (ctx.poolDiscards = 0) }
  else
    { ctx with observations := ctx.observations ++
        [{ tag := tag, item := s.lookup tag, count := 1, w := if position.isSome then w else 0,
           p := w * position.getD 0, peak := rssi, firstTime := arrival, lastTime := arrival }] }

/-- The sighting forms an observation (R70, R72). -/
def Forms (s : State) (ctx : Context) (tag : Tag) : Prop :=
  (∀ o ∈ ctx.observations, o.tag ≠ tag) ∧ ctx.observations.length < 640 ∧ s.pool.freeSlots ≠ 0

/-- The finding an admitted sighting produces, if any: CONTEXT_FULL or POOL_EXHAUSTED at a context's first discard, and
FIRST_SIGHT, when enabled, for an observation formed (R73 to R75). -/
def sightFinding (s : State) (ctx : Context) (l : Fin 8) (tag : Tag) (rssi : Int) (position : Option Nat)
    (arrival : Time) : Option Finding :=
  if ∃ o ∈ ctx.observations, o.tag = tag then none
  else if 640 ≤ ctx.observations.length then
    if ctx.capDiscards = 0 then
      some { kind := .contextFull, time := arrival, truncated := true, segment := some ctx.segment, lane := some l,
             tag := some tag }
    else none
  else if s.pool.freeSlots = 0 then
    if ctx.poolDiscards = 0 then
      some { kind := .poolExhausted, time := arrival, truncated := true, segment := some ctx.segment, lane := some l,
             tag := some tag }
    else none
  else if s.opts.general.getLsbD 0 then
    some { kind := .firstSight, time := arrival, segment := some ctx.segment, lane := some l, tag := some tag,
           item := s.lookup tag, peak := some rssi, estimate := position }
  else none

/-- A finding has been pushed, if there is one; without one the Findings Queue is as in s. -/
def PushedIfAny (s t : State) (f : Option Finding) : Prop :=
  match f with
  | some f => Pushed s t f
  | none => t.findq = s.findq

/-- n free slots of the Item Table from a slot on (R3). -/
def FreeAt (s : State) (start n : Nat) : Prop :=
  start + n ≤ 65536 ∧ ∀ i, start ≤ i → i < start + n → ∀ g r, s.segment g = some r → inRun r i = false

/-- The engine is RUNNING in the settle w, of the segment with record r, whose CLOSED context is number c with
contents ctx (R101, R102). -/
structure Settles (s : State) (w : Settle) (r : Segment) (c : Fin 16) (ctx : Context) : Prop where
  engine : s.settle.engine = .settling w
  running : w.kept = none
  segment : s.segment w.segment = some r
  settling : r.phase = .settling c
  context : s.context c = some ctx

/-- In t the settle goes on as w with the finding f: pushed with the time of the push below 240 records, else kept by
the engine, which is STALLED (R116, R148); without a finding nothing is pushed. The Settle Queue is as in s. -/
def GoesOn (s t : State) (w : Settle) (f : Option Finding) : Prop :=
  t.settle.queue = s.settle.queue ∧
  match f with
  | none => t.findq = s.findq ∧ t.settle.engine = .settling w
  | some f =>
    (s.findq.records.length < 240 → t.settle.engine = .settling w ∧
      t.findq = { s.findq with records := s.findq.records ++ [{ f with time := s.clock.value }] }) ∧
    (240 ≤ s.findq.records.length → t.settle.engine = .settling { w with kept := some f } ∧ t.findq = s.findq)

/-! ### Words for circulation events and settles -/

/-- The status an event of a CIRC frame gives its item; none for an event that cannot be read (R126, R127). -/
def eventStatus (w : WireEvent) : Option CircStatus :=
  match w.kind with
  | 1 => some .onLoan
  | 2 => some .inTransit
  | 3 => some .onShelf
  | 4 => circOfCode w.status
  | _ => none

/-- The status an event that has been read gives its item (R126). -/
def statusOf (e : CircEvent) : CircStatus :=
  match e.kind with
  | .checkout => .onLoan
  | .checkin => .inTransit
  | .reshelve => .onShelf
  | .setStatus => e.status.getD .onShelf

/-- A result that an application explains (R130). -/
def Explained (r : CountResult) : Prop := r = .missing ∨ r = .unverified

/-- What an applied event leaves of an item record (R128, R130). -/
def AppliedTo (it it' : Item) (status : CircStatus) (arrival : Time) : Prop :=
  it' = { it with status := status, statusTime := some arrival, result := it'.result } ∧
    (Explained it.result → it'.result = .accounted) ∧ (¬ Explained it.result → it'.result = it.result)

/-- An observation of the segment in settle is ruled v: the cases of R105, with R106 to R108. -/
def Ruled (s : State) (w : Settle) (twin : Option Nat) (o : Observation) (estimate : Option Nat) (v : Verdict) : Prop :=
  let here (i : Nat) (it : Item) (moved : Option Moved) : Prop :=
    v = .placed i (if it.home = w.segment then (if estimate.isSome then .candidate else .unplaced) else .stray) moved
  (o.item = none → v = .unknown) ∧
  ∀ i it, o.item = some i → s.item i = some it →
    (∀ p, it.placed = some p → p.segment ≠ w.segment →
      (p.peak + w.revise < o.peak → here i it (some { oldResult := it.result, oldSegment := p.segment })) ∧
      (o.peak ≤ p.peak + w.revise → v = .crossRead)) ∧
    (it.placed = none →
      (twin = some it.home ∧ o.peak < w.xread → v = .crossRead) ∧
      (¬ (twin = some it.home ∧ o.peak < w.xread) → here i it none)) ∧
    (∀ p, it.placed = some p → p.segment = w.segment → here i it none)

/-- n candidates, taken in order, with ranks that do not fall, end with the one at place j (R109). -/
def EndsAt (cs : List Candidate) (j n : Nat) : Prop :=
  ∃ run c, cs[j]? = some c ∧ List.Sublist run (cs.take j) ∧ (run ++ [c]).Pairwise (fun a b => a.rank ≤ b.rank) ∧
    run.length + 1 = n

/-- L of the candidate at place j is n (R109). -/
def LongestAt (cs : List Candidate) (j n : Nat) : Prop := EndsAt cs j n ∧ ∀ m, EndsAt cs j m → m ≤ n

/-- The places of the order chain, latest first, as R110 picks them: the latest of greatest L; after one of L n, the latest
before it whose L is n − 1 and whose rank is no greater; the last with an L of 1. -/
structure PicksChain (cs : List Candidate) (picks : List Nat) : Prop where
  empty : picks = [] ↔ cs = []
  first : ∀ p rest, picks = p :: rest → ∃ n, LongestAt cs p n ∧ ∀ k m, LongestAt cs k m → m ≤ n ∧ (p < k → m < n)
  next : ∀ newer a b older, picks = newer ++ a :: b :: older → b < a ∧ ∃ n ca cb, LongestAt cs a (n + 1) ∧
    LongestAt cs b n ∧ cs[a]? = some ca ∧ cs[b]? = some cb ∧ cb.rank ≤ ca.rank ∧
    ∀ k ck, b < k → k < a → cs[k]? = some ck → ck.rank ≤ ca.rank → ¬ LongestAt cs k n
  last : ∀ p, picks.getLast? = some p → LongestAt cs p 1

/-- Shelf order (R109). -/
def ShelfOrder (a b : Candidate) : Prop :=
  a.estimate < b.estimate ∨ (a.estimate = b.estimate ∧ (a.rank < b.rank ∨ (a.rank = b.rank ∧ a.item ≤ b.item)))

/-- What the order chain stage makes of one ruling (R110, R111). -/
def ChainRules (s : State) (chain : List Candidate) (r r' : Ruling) : Prop :=
  r'.observation = r.observation ∧ r'.estimate = r.estimate ∧
  (∀ i m, r.verdict = .placed i .candidate m →
    ((∃ c ∈ chain, c.item = i) → r'.verdict = .placed i .inPlace m) ∧
    ((∀ c ∈ chain, c.item ≠ i) →
      r'.verdict = .placed i (.outOfOrder ((s.item i).bind fun it => shouldFollow chain it.rank)) m)) ∧
  ((∀ i m, r.verdict ≠ .placed i .candidate m) → r'.verdict = r.verdict)

/-- An observation of this settle placed item i (R117). -/
def PlacedBy (rs : List Ruling) (i : Nat) : Prop := ∃ r ∈ rs, ∃ place moved, r.verdict = .placed i place moved

/-- The items the missing sweep of segment g visits, in its order: home items first, then those located here, each by
item index (R117). -/
def Sweeps (s : State) (g : Nat) (rs : List Ruling) (visits : List Nat) : Prop :=
  ∃ home away, visits = home ++ away ∧ home.Pairwise (· < ·) ∧ away.Pairwise (· < ·) ∧
    (∀ i, i ∈ home ↔ ∃ it, s.item i = some it ∧ it.home = g ∧ ¬ PlacedBy rs i) ∧
    (∀ i, i ∈ away ↔ ∃ it p, s.item i = some it ∧ it.home ≠ g ∧ it.placed = some p ∧ p.segment = g ∧ ¬ PlacedBy rs i)

/-- The stage after an observation is done (R102, R112, R117). -/
def StageAfter (t : State) (g : Nat) (rs todo : List Ruling) (stage : Stage) : Prop :=
  (todo ≠ [] → stage = .results rs todo) ∧
  (todo = [] → ∃ visits, Sweeps t g rs visits ∧ stage = if visits = [] then .summary rs else .sweep rs visits)

/-- The count number a segment carries once its settle completes (R2, R112). -/
def newCount (r : Segment) : Nat := min 255 (r.countNumber + 1)

/-- The count result of a placement that the order chain has ruled (R112). -/
def resultOf (place : Place) : CountResult :=
  match place with
  | .candidate => .inPlace
  | .inPlace => .inPlace
  | .outOfOrder _ => .outOfOrder
  | .unplaced => .unplaced
  | .stray => .stray

/-- An observed item is in status conflict (R114). -/
def Conflicts (it : Item) (o : Observation) : Prop :=
  it.status ≠ .onShelf ∧ ∀ t, it.statusTime = some t → t < o.lastTime

/-- The finding of an observed item that the results stage has written, with the fields of R113 and R114; its time is
given at the push. -/
def ResultFinding (g n : Nat) (truncated : Bool) (i : Nat) (it : Item) (x : Ruling) (place : Place)
    (moved : Option Moved) (f : Option Finding) : Prop :=
  ∃ conflict : Bool, (conflict = true ↔ Conflicts it x.observation) ∧
  let base (kind : FindingKind) : Finding :=
    { kind := kind, time := 0, truncated := truncated, segment := some g, count := some n, conflict := conflict,
      item := some i, tag := some it.tag, peak := some x.observation.peak }
  (∀ m, moved = some m →
    f = some { base .revised with oldResult := some m.oldResult, newResult := some (resultOf place),
                                  reference := some m.oldSegment }) ∧
  (moved = none →
    (∀ follow, place = .outOfOrder follow →
      f = some { base .outOfOrder with rank := some it.rank, estimate := x.estimate, follow := follow }) ∧
    (place = .stray →
      f = some { base .stray with rank := some it.rank, estimate := x.estimate, reference := some it.home }) ∧
    (place = .inPlace ∨ place = .unplaced →
      (conflict = true →
        f = some { base .statusConflict with rank := some it.rank, estimate := x.estimate, status := some it.status,
                                             newResult := some (resultOf place) }) ∧
      (conflict = false → f = none)))

/-- The tallies after one placement (R112). -/
def TalliedPlace (a b : Tallies) (place : Place) : Prop :=
  b = { a with
    inPlace := a.inPlace + (if resultOf place = .inPlace then 1 else 0),
    outOfOrder := a.outOfOrder + (if resultOf place = .outOfOrder then 1 else 0),
    unplaced := a.unplaced + (if resultOf place = .unplaced then 1 else 0),
    stray := a.stray + (if resultOf place = .stray then 1 else 0) }

/-- The result of an item expected on the shelf and not seen (R118). -/
def notSeen (truncated : Bool) (it : Item) : CountResult :=
  if it.status = .onShelf then (if truncated then .unverified else .missing) else .absentExpected

/-- A ruling whose tag the cue may list: OUT_OF_ORDER, STRAY, or relocated (R121). -/
def cued (r : Ruling) : Bool :=
  match r.verdict with
  | .placed _ place moved => moved.isSome || decide (resultOf place = .outOfOrder) || decide (resultOf place = .stray)
  | _ => false

/-- Estimate order among known estimates (R121). -/
def EstimateOrder (a b : Ruling) : Prop :=
  ∃ x y, a.estimate = some x ∧ b.estimate = some y ∧
    (x < y ∨ (x = y ∧ ∀ i p m j q k, a.verdict = .placed i p m → b.verdict = .placed j q k → i ≤ j))

/-- The tags a cue lists (R121): those with a known estimate in estimate order, then the others in list order, the first
eight of them. -/
def CueLists (rs : List Ruling) (tags : List Tag) : Prop :=
  ∃ known : List Ruling,
    known.Perm (rs.filter fun r => cued r && r.estimate.isSome) ∧ known.Pairwise EstimateOrder ∧
    tags = ((known ++ rs.filter fun r => cued r && r.estimate.isNone).take 8).map fun r => r.observation.tag

/-- What the Field Port holds after the cue of a settle has been offered, or not been made (R121, R167). -/
def CueOffered (s t : State) (l : Fin 8) (g n : Nat) (tallies : Tallies) (rs : List Ruling) : Prop :=
  if s.opts.general.getLsbD 2 = true ∧ (s.lane l).mode ≠ .detached then
    (s.field.out.length < 16 → ∃ tags, CueLists rs tags ∧ t.field = { s.field with out := s.field.out ++
      [.cue { lane := l, segment := g, count := n, tallies := tallies, tags := tags }] }) ∧
    (16 ≤ s.field.out.length → t.field = { s.field with outDrops := raised s.field.outDrops 1 })
  else t.field = s.field

/-- The findings a scan of the Deferred Queue pushes, in queue order (R130, R131, R135): a REVISED for the first waiting
event of each item whose result is MISSING or UNVERIFIED. A later event of the item finds it ACCOUNTED. -/
def scanFindings (s : State) : List Finding :=
  (List.range s.circ.deferred.length).filterMap fun k =>
    (s.circ.deferred[k]?).bind fun e => (s.lookup e.tag).bind fun i => (s.item i).bind fun it =>
      if (it.result = .missing ∨ it.result = .unverified) ∧ ∀ f ∈ s.circ.deferred.take k, s.lookup f.tag ≠ some i then
        some { kind := .revised, time := s.clock.value, segment := some it.home, count := it.stamp.map (·.count),
               item := some i, tag := some it.tag, rank := some it.rank, oldResult := some it.result,
               newResult := some .accounted }
      else none

/-- In t findings have been pushed one after another by a producer other than the Settle Engine: those that found a free
place joined the tail, and the rest were lost and counted (R147, R152). -/
def PushedAll (s t : State) (fs : List Finding) : Prop :=
  t.findq = { records := s.findq.records ++ fs.take (256 - s.findq.records.length),
              lost := s.findq.lost || decide (256 - s.findq.records.length < fs.length),
              lostTally := raised s.findq.lostTally (fs.length - (256 - s.findq.records.length)) }

/-! ### Words for the bytes of sent frames (R158, R159, 9.7) -/

/-- x in k bytes, the most significant first. -/
def wide (k x : Nat) : List Byte := (List.range k).map fun j => BitVec.ofNat 8 (x / 256 ^ (k - 1 - j))

/-- A signed value in k bytes, two's complement. -/
def wideSigned (k : Nat) (x : Int) : List Byte := wide k (x % (256 ^ k : Nat)).toNat

/-- A flag in one byte. -/
def flag (b : Bool) : List Byte := [if b then 1 else 0]

/-- An optional field of k bytes: a presence byte 1 and the field, or as many zeros (9.7.5). -/
def maybe (k : Nat) (field : Option (List Byte)) : List Byte :=
  match field with
  | some bs => 1 :: bs
  | none => List.replicate (k + 1) 0

/-- The register of the check after one bit, by the generator x^16 + x^12 + x^5 + 1 (R159). -/
def registerAfter (r bit : Nat) : Nat :=
  if (r / 32768 + bit) % 2 = 1 then (2 * r % 65536) ^^^ 0x1021 else 2 * r % 65536

/-- The bits of a byte, the most significant first. -/
def bitsOf (b : Byte) : List Nat := [7, 6, 5, 4, 3, 2, 1, 0].map fun i => b.toNat / 2 ^ i % 2

/-- The check of bytes in the order they are sent (R159). -/
def checkOf (bs : List Byte) : Nat := (bs.flatMap bitsOf).foldl registerAfter 0xFFFF

/-- A frame: class, length, payload, and the check over them, high byte first (R158). -/
def sentFrame (cls : Nat) (payload : List Byte) : List Byte :=
  let checked := BitVec.ofNat 8 cls :: BitVec.ofNat 8 payload.length :: payload
  checked ++ wide 2 (checkOf checked)

/-- The eleven tallies in the order of R120. -/
def elevenTallies (t : Tallies) : List Byte :=
  [t.expected, t.inPlace, t.outOfOrder, t.unplaced, t.missing, t.unverified, t.absentExpected, t.locatedElsewhere,
   t.stray, t.unknown, t.crossReads].flatMap (wide 2)

/-- The fields of a finding by presence bit (9.7.6). -/
def presentFields (f : Finding) : List (Option (List Byte)) :=
  [f.segment.map (wide 2), f.count.map (wide 1), f.lane.map fun l => wide 1 l.val, f.item.map (wide 2),
   f.tag.map fun t => wide 8 t.toNat, f.rank.map fun r => wide 4 r.toNat, f.status.map fun c => wide 1 (circCode c),
   f.estimate.map (wide 2), f.peak.map (wideSigned 1), f.reference.map (wide 2), f.follow.map (wide 2),
   f.oldResult.map fun r => wide 1 (resultCode r), f.newResult.map fun r => wide 1 (resultCode r),
   f.cause.map fun c => wide 1 (causeCode c), f.tallies.map elevenTallies, f.event.map fun e => wide 1 (eventCode e)]

/-- The codes of 9.7.5. -/
structure CodesOk : Prop where
  status : [Status.ok, .busy, .badArgument, .noSpace, .duplicateTag, .wrongState, .countMismatch, .orderError,
    .sequenceError, .notFound, .unknownRequest].map statusCode = [0, 1, 2, 3, 4, 5, 6, 7, 8, 9, 10]
  finding : [FindingKind.missing, .unverified, .outOfOrder, .stray, .unknownTag, .statusConflict, .segmentSettled,
    .revised, .firstSight, .rangeRefused, .claimConflict, .segmentNotReady, .laneOverrun, .laneMarkerLost, .contextFull,
    .poolExhausted, .circDropped].map findingCode = [1, 2, 3, 4, 5, 6, 7, 8, 9, 10, 11, 12, 13, 14, 15, 16, 17]
  result : [CountResult.uncounted, .inPlace, .outOfOrder, .unplaced, .stray, .missing, .unverified, .absentExpected,
    .accounted].map resultCode = [0, 1, 2, 3, 4, 5, 6, 7, 8]
  circulation : [CircStatus.onShelf, .onLoan, .inTransit, .onHold, .withdrawn, .lost].map circCode = [0, 1, 2, 3, 4, 5]
  circulationRead : ∀ n st, circOfCode n = some st ↔ circCode st = n
  event : [EventKind.checkout, .checkin, .reshelve, .setStatus].map eventCode = [1, 2, 3, 4]
  cause : [CloseCause.leave, .newEnter, .dwellTimeout, .laneDown, .markerLost, .request].map causeCode =
    [0, 1, 2, 3, 4, 5]
  prior : [Prior.ready, .settled].map priorCode = [2, 5]
  segment : ∀ r : Segment, segmentCode none = 0 ∧
    segmentCode (some r) = match r.phase with
      | .loading _ => 1
      | .ready => 2
      | .counting _ => 3
      | .settling _ => 4
      | .settled => 5
  lane : laneCode .detached = 0 ∧ laneCode .idle = 1 ∧ (∀ g d, laneCode (.inSegment g d) = 2) ∧ laneCode .inVoid = 3 ∧
    ∀ rel gap f, laneCode (.waiting rel gap f) = 4
  context : contextCode none = 0 ∧ (∀ c l, c.phase = .opened l → contextCode (some c) = 1) ∧
    ∀ c l x, c.phase = .closed l x → contextCode (some c) = 2
  engine : engineCode .idle = 0 ∧ engineCode .taking = 1 ∧ engineCode .scanning = 1 ∧
    ∀ w, engineCode (.settling w) = if w.kept = none then 1 else 2

/-- The bytes of the frames sent on the Trunk Link (9.7.3), with the result fields of every reply in the order of its rule
(9.7.5); those of IDENTIFY and RESET are told of with their requests. The width of an offset and that of an OPTION reply's
word code are the model's (DEDUCED, log entries 31 and 32), and so are the layouts of log entries 11, 12, 14 and 30. -/
structure TrunkLayouts : Prop where
  reply : ∀ r : Reply, replyFrame r = sentFrame 0x31
    (r.tag :: (wide 1 r.kind ++ wide 1 (statusCode r.status) ++ r.segState.toList ++ bodyBytes r.body))
  notice : ∀ conditions latches, noticeFrame conditions latches =
    sentFrame 0x32 (wide 3 conditions.toNat ++ wide 3 latches.toNat)
  finding : ∀ f : Finding, findingFrame f = sentFrame 0x33
    (wide 1 (findingCode f.kind) ++ wide 4 f.time.toNat ++
      wide 1 ((if f.conflict then 1 else 0) + if f.truncated then 2 else 0) ++
      wide 2 ((List.range 16).map fun k => if (((presentFields f)[k]?).getD none).isSome then 2 ^ k else 0).sum ++
      (presentFields f).flatMap fun x => x.getD [])
  plain : bodyBytes .none = []
  device : ∀ f, bodyBytes (.device f) =
    wide 4 f.clock.toNat ++ flag f.clockSet ++ flag f.fieldUp ++ flag f.trunkUp ++ wide 4 f.fieldDiscards ++
      wide 4 f.trunkDiscards ++ wide 4 f.fieldOutDrops ++ wide 2 f.fieldOutLength ++ [f.pendingPause] ++
      [f.pendingResume] ++ wide 4 f.requestDiscards ++
      [f.slotsFree, f.slotsPending, f.slotsInService, f.slotsReplyReady, f.slotsSending].flatMap (wide 2) ++
      wide 3 f.conditions.toNat ++ wide 3 f.latches.toNat
  lanes : ∀ fs, bodyBytes (.lanes fs) = fs.flatMap fun f =>
    wide 1 f.state ++ wide 2 f.base ++ wide 2 f.limit ++ maybe 2 (f.current.map (wide 2)) ++ wide 4 f.voidTally ++
      wide 4 f.dropTally ++ wide 2 f.entries ++ wide 2 f.sightings ++ flag f.paused ++ flag f.overrun
  pool : ∀ f, bodyBytes (.pool f) =
    [f.freeSlots, f.free, f.opened, f.closed].flatMap (wide 2) ++ f.contexts.flatMap fun x =>
      wide 1 x.1.val ++ wide 1 (contextCode (some x.2)) ++ wide 2 x.2.segment ++
        (match x.2.phase with
          | .opened l => maybe 1 (some (wide 1 l.val)) ++ maybe 1 none ++ maybe 1 none
          | .closed l cause => maybe 1 none ++ maybe 1 (some (wide 1 l.val)) ++ maybe 1 (some (wide 1 (causeCode cause)))) ++
        wide 1 (priorCode x.2.prior) ++ wide 4 x.2.openTime.toNat ++ flag x.2.truncated ++
        [x.2.capDiscards, x.2.poolDiscards, x.2.observations.length].flatMap (wide 2)
  settle : ∀ f, bodyBytes (.settle f) =
    wide 1 f.engine ++ maybe 2 (f.segment.map (wide 2)) ++ (f.queue.length :: f.queue).flatMap (wide 2) ++
      wide 2 f.findings ++ wide 4 f.lostTally ++ flag f.findqHigh ++ flag f.findqLost
  store : ∀ f, bodyBytes (.store f) =
    wide 4 f.freeCount ++ wide 4 f.largestFree ++ wide 2 f.deferred ++
      [f.applied, f.deferredTally, f.ignored, f.dropped].flatMap (wide 4)
  knots : ∀ k, bodyBytes (.knots k) = k.toList.flatMap fun x => wide 2 x.toNat
  option : ∀ code value, bodyBytes (.option code value) = wide 1 code ++ wideSigned 4 value
  window : ∀ base limit, bodyBytes (.window base limit) = wide 2 base ++ wide 2 limit
  clock : ∀ value set, bodyBytes (.clock value set) = wide 4 value.toNat ++ flag set
  counts : ∀ n, bodyBytes (.firstItem n) = wide 2 n ∧ bodyBytes (.largestFree n) = wide 4 n ∧
    bodyBytes (.loadedSoFar n) = wide 2 n ∧ bodyBytes (.offset n) = wide 2 n ∧ bodyBytes (.itemCount n) = wide 2 n
  duplicate : ∀ n item, bodyBytes (.duplicate n item) = wide 2 n ++ maybe 2 (item.map (wide 2))
  unloaded : bodyBytes (.segment none) =
    maybe 2 none ++ maybe 2 none ++ maybe 2 none ++ maybe 2 none ++ wide 1 0 ++ maybe 1 none ++ maybe 1 none ++
      maybe 22 none
  segment : ∀ r, bodyBytes (.segment (some r)) =
    maybe 2 (r.twin.map (wide 2)) ++ maybe 2 (some (wide 2 r.firstItem)) ++ maybe 2 (some (wide 2 r.itemCount)) ++
      maybe 2 (match r.phase with
        | .loading n => some (wide 2 n)
        | _ => none) ++
      wide 1 r.countNumber ++
      maybe 1 (match r.phase with
        | .counting c => some (wide 1 c.val)
        | .settling c => some (wide 1 c.val)
        | _ => none) ++
      maybe 1 (r.last.map fun x => wide 1 (causeCode x.1)) ++ maybe 22 (r.last.map fun x => elevenTallies x.2)
  item : ∀ i it, bodyBytes (.item i it) =
    wide 2 i ++ wide 8 it.tag.toNat ++ wide 4 it.rank.toNat ++ wide 2 it.home ++ wide 1 (circCode it.status) ++
      maybe 4 (it.statusTime.map fun t => wide 4 t.toNat) ++ wide 1 (resultCode it.result) ++
      maybe 2 (it.placed.map fun p => wide 2 p.segment) ++ maybe 1 (it.placed.map fun p => wideSigned 1 p.peak) ++
      maybe 2 (it.estimate.map (wide 2)) ++ maybe 1 (it.stamp.map fun x => wide 1 x.count) ++
      maybe 4 (it.stamp.map fun x => wide 4 x.time.toNat) ++ flag it.hold
  closed : ∀ c n truncated state, bodyBytes (.closed c n truncated state) =
    wide 1 c.val ++ wide 2 n ++ flag truncated ++ wide 1 state
  notices : ∀ conditions latches, bodyBytes (.notices conditions latches) =
    wide 3 conditions.toNat ++ wide 3 latches.toNat
  codes : CodesOk

/-- The bytes of the frames sent on the Field Link (9.7.2). -/
structure FieldLayouts : Prop where
  pause : ∀ l : Fin 8, signalFrame l .pause = sentFrame 0x11 (wide 1 l.val)
  resume : ∀ l : Fin 8, signalFrame l .resume = sentFrame 0x12 (wide 1 l.val)
  cue : ∀ c, outFrameBytes (.cue c) = sentFrame 0x13
    (wide 1 c.lane.val ++ wide 2 c.segment ++ wide 1 c.count ++ elevenTallies c.tallies ++ wide 1 c.tags.length ++
      c.tags.flatMap fun t => wide 8 t.toNat)
  laneMsg : ∀ lane body, outFrameBytes (.laneMsg lane body) = sentFrame 0x14 (wide 1 lane ++ body)

/-- A REQUEST frame with the tag, kind code and arguments given (9.7.3). -/
def askedFrame (tag : Byte) (kind : Nat) (args : List Byte) : Option (Port × List Byte) :=
  some (.trunk, sentFrame 0x21 (tag :: (wide 1 kind ++ args)))

/-- The bytes of the frames that bring the arrival commands (9.7.2 to 9.7.4). -/
structure ArrivalLayouts : Prop where
  lane : ∀ lane, arrivalFrame (.laneUp lane) = some (.field, sentFrame 0x01 (wide 1 lane)) ∧
    arrivalFrame (.laneDown lane) = some (.field, sentFrame 0x02 (wide 1 lane)) ∧
    arrivalFrame (.leaveFrame lane) = some (.field, sentFrame 0x05 (wide 1 lane))
  enter : ∀ lane rel, arrivalFrame (.enterFrame lane rel) = some (.field, sentFrame 0x03 (wide 1 lane ++ wide 2 rel))
  sight : ∀ lane frame, arrivalFrame (.sightFrame lane frame) =
    some (.field, sentFrame 0x04 (wide 1 lane ++ wide 1 frame.length ++ frame.flatMap fun w =>
      wide 8 w.tag.toNat ++ wide 1 w.rssi.toNat ++ wide 2 (w.position + if w.positioned then 32768 else 0)))
  laneMsg : ∀ lane body, arrivalFrame (.laneMsg lane body) = some (.trunk, sentFrame 0x14 (wide 1 lane ++ body))
  circ : ∀ events, arrivalFrame (.circ events) = some (.trunk, sentFrame 0x22 (wide 1 events.length ++
    events.flatMap fun e => wide 1 e.kind ++ wide 1 e.status ++ wide 8 e.tag.toNat))
  plain : ∀ tag, arrivalFrame (.request tag .identify) = askedFrame tag 0x01 [] ∧
    arrivalFrame (.request tag .readNotices) = askedFrame tag 0x10 [] ∧
    arrivalFrame (.request tag .restartCount) = askedFrame tag 0x11 [] ∧
    arrivalFrame (.request tag .reset) = askedFrame tag 0x12 []
  readStatus : ∀ tag selector, arrivalFrame (.request tag (.readStatus selector)) = askedFrame tag 0x02 (wide 1 selector)
  option : ∀ tag op code value, arrivalFrame (.request tag (.option op code value)) =
    askedFrame tag 0x03 (wide 1 op ++ wide 1 code ++ wide 4 value.toNat)
  window : ∀ tag lane base limit, arrivalFrame (.request tag (.setWindow lane base limit)) =
    askedFrame tag 0x04 (wide 1 lane ++ wide 2 base ++ wide 2 limit)
  clock : ∀ tag value, arrivalFrame (.request tag (.setClock value)) = askedFrame tag 0x05 (wide 4 value.toNat)
  begin : ∀ tag g count presence twin, arrivalFrame (.request tag (.loadBegin g count presence twin)) =
    askedFrame tag 0x06 (wide 2 g ++ wide 2 count ++ wide 1 presence ++ wide 2 twin)
  items : ∀ tag g offset records, arrivalFrame (.request tag (.loadItems g offset records)) =
    askedFrame tag 0x07 (wide 2 g ++ wide 2 offset ++ wide 1 records.length ++
      records.flatMap fun r => wide 8 r.tag.toNat ++ wide 4 r.rank.toNat ++ wide 1 r.status)
  named : ∀ tag g, arrivalFrame (.request tag (.loadEnd g)) = askedFrame tag 0x08 (wide 2 g) ∧
    arrivalFrame (.request tag (.loadAbort g)) = askedFrame tag 0x09 (wide 2 g) ∧
    arrivalFrame (.request tag (.unload g)) = askedFrame tag 0x0A (wide 2 g) ∧
    arrivalFrame (.request tag (.recount g)) = askedFrame tag 0x0B (wide 2 g) ∧
    arrivalFrame (.request tag (.closeSegment g)) = askedFrame tag 0x0C (wide 2 g) ∧
    arrivalFrame (.request tag (.querySegment g)) = askedFrame tag 0x0D (wide 2 g)
  item : ∀ tag selector value, arrivalFrame (.request tag (.queryItem selector value)) =
    askedFrame tag 0x0E (wide 1 selector ++ wide 8 value.toNat)
  weights : ∀ tag knots, arrivalFrame (.request tag (.loadWeights knots)) =
    askedFrame tag 0x0F (knots.toList.flatMap fun k => wide 2 k.toNat)
  unknown : ∀ tag kind args, arrivalFrame (.request tag (.unknown kind args)) = askedFrame tag kind args

end Sys2Proof.Machine
end

