-- ==== Sys2Proof/Certificates/Slice0/Obligations.lean ====
section
/-! DEFINITION. The statements about the KT-48. A statement about every state holds in states that no run reaches, too; where it
would fail there, a sound-state predicate of Sys2Proof/Safety.lean stands as a premise, and a statement of its own
says that every step keeps it. -/

open Sys2Proof Sys2Proof.Machine

/-! ### The machine as a whole -/

/-- A step runs the command at the front of the queue, on the state with the queue's rest. That the block idles on an
empty queue is the model's choice (log entry 1). -/
def Obligations.StepRunsTheFrontCommand : Prop :=
  (∀ (s : State) (c : Instr) (rest : List Instr), s.pending = c :: rest → step s = exec c { s with pending := rest }) ∧
  ∀ s : State, s.pending = [] → step s = .next s

/-- No command stops the part. None touches what stands outside it, full resets included: the commands that wait, the reset
input but by its own two commands, and each receiver's signal but by its own link's commands. That these stay is the
model's choice (log entries 1 and 26), and so is that a command out of its turn changes nothing instead of stopping (log
entry 2). -/
def Obligations.NoCommandStopsThePart : Prop :=
  ∀ (i : Instr) (s : State), ∃ t, exec i s = .next t ∧ t.pending = s.pending ∧
    (i ≠ .resetInputAssert → i ≠ .resetInputRelease → t.resetPin = s.resetPin) ∧
    ((∀ r, i ≠ .linkDown .field r) → i ≠ .linkUp .field → t.field.signal = s.field.signal) ∧
    ((∀ r, i ≠ .linkDown .trunk r) → i ≠ .linkUp .trunk → t.trunk.signal = s.trunk.signal)

/-- The state after a full reset is sound in every block, and every live condition but SETTLE_STALLED is clear in it
(R182). -/
def Obligations.ResetStateIsSound : Prop :=
  TablesOk State.reset ∧ PoolOk State.reset ∧ OptionsOk State.reset.opts ∧ QueuesOk State.reset ∧
    RunsOk State.reset ∧ ClaimsOk State.reset ∧ SettleOk State.reset ∧ TalliesOk State.reset ∧
    liveConditions State.reset = 0x100000

/-- Configuration changes only at its own commands and at full resets: the knots at LOAD_WEIGHTS (R88, R92), the clock
at SET_CLOCK and the tick (R180), the option words at the writing OPTION commands (R175), a lane's window at SET_WINDOW
(R42). -/
def Obligations.ConfigurationChangesOnlyAtItsOwnCommands : Prop :=
  ∀ (i : Instr) (s t : State), exec i s = .next t →
    i ≠ .reset → i ≠ .powerOn → i ≠ .resetInputAssert →
    (i ≠ .loadWeights → t.weights = s.weights) ∧
    (i ≠ .setClock → t.clock.set = s.clock.set) ∧
    (i ≠ .setClock → i ≠ .campaignClockTick → t.clock.value = s.clock.value) ∧
    (i ≠ .optionWrite → i ≠ .optionSet → i ≠ .optionClear → t.opts = s.opts) ∧
    (i ≠ .setWindow → ∀ l : Fin 8, (t.lane l).base = (s.lane l).base ∧ (t.lane l).limit = (s.lane l).limit)

/-- A latch once set stays set until READ_NOTICES or a full reset, whatever else the part does (R183). -/
def Obligations.LatchesStayUntilRead : Prop :=
  ∀ (i : Instr) (s t : State), exec i s = .next t →
    i ≠ .readNotices → i ≠ .reset → i ≠ .powerOn → i ≠ .resetInputAssert →
    ∀ n, s.notices.latches.getLsbD n = true → t.notices.latches.getLsbD n = true

/-- The 21 live conditions, bit by bit (R182). -/
def Obligations.LiveConditionsByBit : Prop :=
  ∀ s : State,
    (∀ l : Fin 8, (liveConditions s).getLsbD l.val = decide ((s.lane l).mode ≠ .detached)) ∧
    (∀ l : Fin 8, (liveConditions s).getLsbD (8 + l.val) = (s.lane l).paused) ∧
    (liveConditions s).getLsbD 16 = decide (s.opts.fqHigh ≤ s.findq.records.length) ∧
    (liveConditions s).getLsbD 17 = s.findq.lost ∧
    (liveConditions s).getLsbD 18 = decide (s.pool.freeSlots < s.opts.poolLow) ∧
    (liveConditions s).getLsbD 19 = decide (24 ≤ s.circ.deferred.length) ∧
    ((liveConditions s).getLsbD 20 = true ↔
      (∃ w f, s.settle.engine = .settling w ∧ w.kept = some f) ∨ s.clock.set = false)

/-- What a change of the state does to the latches and the waiting NOTICE: a latch is set by an enabled edge of its condition
and never cleared, and a latch newly set makes a NOTICE wait (R183, R184). So it is of every command but the full resets,
which put every condition, latch and enable word at its reset contents: a condition clear before and set after it, with
its rising edge enabled, has its latch set, a falling edge alike, and a latch newly set leaves a NOTICE waiting. -/
def Obligations.EdgesSetLatches : Prop :=
  (∀ (s : State) (change : State → State), (change s).notices = s.notices →
    let old := liveConditions s
    let new := liveConditions (change s)
    let t := withEdges s change
    (∀ n, n < 21 → (t.notices.latches.getLsbD n = true ↔
      s.notices.latches.getLsbD n = true ∨
      (old.getLsbD n = false ∧ new.getLsbD n = true ∧ (change s).opts.noticeRise.getLsbD n = true) ∨
      (old.getLsbD n = true ∧ new.getLsbD n = false ∧ (change s).opts.noticeFall.getLsbD n = true))) ∧
    (t.notices.waiting = true ↔ s.notices.waiting = true ∨
      ∃ n, n < 21 ∧ s.notices.latches.getLsbD n = false ∧ t.notices.latches.getLsbD n = true) ∧
    t = { change s with notices := t.notices }) ∧
  ∀ (i : Instr) (s t : State), exec i s = .next t → i ≠ .reset → i ≠ .powerOn → i ≠ .resetInputAssert →
    ∀ n, n < 21 →
      ((liveConditions s).getLsbD n = false → (liveConditions t).getLsbD n = true →
        t.opts.noticeRise.getLsbD n = true → t.notices.latches.getLsbD n = true) ∧
      ((liveConditions s).getLsbD n = true → (liveConditions t).getLsbD n = false →
        t.opts.noticeFall.getLsbD n = true → t.notices.latches.getLsbD n = true) ∧
      (s.notices.latches.getLsbD n = false → t.notices.latches.getLsbD n = true → t.notices.waiting = true)

/-! ### Invariants -/

/-- R67: every step keeps the free observation slots and the observations of all contexts at 4,096 together, and no
context above 640. -/
def Obligations.StepConservesObservationSlots : Prop :=
  ∀ s t : State, PoolOk s → step s = .next t → PoolOk t

/-- Every step keeps every queue within its bound (R46, R132, R147, R167, R171) and every option word within its range
(R175). -/
def Obligations.StepKeepsQueuesAndOptionsInRange : Prop :=
  ∀ s t : State, QueuesOk s ∧ OptionsOk s.opts → step s = .next t → QueuesOk t ∧ OptionsOk t.opts

/-- Every step keeps every tally within its limit (R29, R140, R152, R160, R167, R172). -/
def Obligations.StepKeepsTalliesInRange : Prop :=
  ∀ s t : State, TalliesOk s → step s = .next t → TalliesOk t

/-- Every step keeps the runs of the Item Table apart, in range and counted by the two free figures (R1, R3), and the
three tables in their form. In such a state the second figure is the length of the longest unbroken free stretch: so many
slots stand free from some slot on, and no more from any (R3). -/
def Obligations.StepKeepsRunsApart : Prop :=
  (∀ s t : State, TablesOk s ∧ RunsOk s → step s = .next t → TablesOk t ∧ RunsOk t) ∧
  ∀ s : State, TablesOk s ∧ RunsOk s → (∃ start, FreeAt s start s.store.largestFree) ∧
    (∀ start n, FreeAt s start n → n ≤ s.store.largestFree) ∧
    ∀ r i, inRun r i = true ↔ r.firstItem ≤ i ∧ i < r.firstItem + r.itemCount

/-- Every step keeps lanes, contexts and segments bound to each other (R24, R66), and the Settle Queue with the segment
in settle the list of the SETTLING segments (R79, R100). -/
def Obligations.StepKeepsClaimsBound : Prop :=
  ∀ s t : State, TablesOk s ∧ ClaimsOk s ∧ SettleOk s → step s = .next t → TablesOk t ∧ ClaimsOk t ∧ SettleOk t

/-- R79: the Settle Queue and the settle in progress together hold at most 16 segments. -/
def Obligations.SettleQueueNeverOverflows : Prop :=
  ∀ s : State, ClaimsOk s → SettleOk s → (inSettleList s.settle.engine ++ s.settle.queue).length ≤ 16

/-! ### Values -/

/-- R89: the weight from a clamped RSSI. With offset o = RSSI + 100, band k = o / 5 and step r = o mod 5, the weight is
knot 16 for k = 16, knot k exactly for r = 0, and otherwise a whole number within half a unit of knot k + d × r / 5 for
d = knot k+1 − knot k; it lies between the two knots. -/
def Obligations.WeightIsNearestInterpolation : Prop :=
  ∀ (knots : Vector (BitVec 16) 17) (rssi : Int), -100 ≤ rssi → rssi ≤ -20 →
    let o := (rssi + 100).toNat
    ∀ k r : Nat, o = 5 * k + r → r < 5 →
      ∀ low : Nat, (knots.toList[k]?).map BitVec.toNat = some low →
      (k = 16 → weight knots rssi = low) ∧
      (k < 16 → r = 0 → weight knots rssi = low) ∧
      (∀ high : Nat, (knots.toList[k + 1]?).map BitVec.toNat = some high →
        2 * (5 * (weight knots rssi : Int) - (5 * (low : Int) + ((high : Int) - (low : Int)) * (r : Int))) ≤ 5 ∧
        -5 ≤ 2 * (5 * (weight knots rssi : Int) - (5 * (low : Int) + ((high : Int) - (low : Int)) * (r : Int))) ∧
        min low high ≤ weight knots rssi ∧ weight knots rssi ≤ max low high) ∧
      weight knots rssi ≤ 65535

/-- R98: the estimate from the sums of contributing sightings (weight above 0) lies between their least and greatest
position. Each pair is a weight and a position. -/
def Obligations.EstimateLiesBetweenPositions : Prop :=
  ∀ (sightings : List (Nat × Nat)) (least greatest e : Nat),
    (∀ x ∈ sightings, 0 < x.1 ∧ least ≤ x.2 ∧ x.2 ≤ greatest) →
    positionEstimate (sightings.map fun x => x.1).sum (sightings.map fun x => x.1 * x.2).sum = some e →
    least ≤ e ∧ e ≤ greatest

/-- R97: no estimate for W = 0; else the whole millimetre nearest to P / W, with halves upward. -/
def Obligations.EstimateIsNearestMillimetre : Prop :=
  ∀ w p : Nat, (positionEstimate w p = none ↔ w = 0) ∧
    ∀ e, positionEstimate w p = some e → 2 * w * e ≤ 2 * p + w ∧ 2 * p + w < 2 * w * (e + 1)

/-- R109 and R110: the order chain, read along the shelf, is a part of the candidates in shelf order whose ranks do not
fall, and no such part is longer; of several longest parts it is the one that the latest candidate at each step gives.
R111: the should-follow item of a rank is a chain member of no greater rank, no chain member of no greater rank has a
greater one, and of several with its rank it is the latest. -/
def Obligations.OrderChainIsLongest : Prop :=
  ∀ cs : List Candidate,
    (orderChain cs).reverse.Sublist cs ∧
    (orderChain cs).reverse.Pairwise (fun a b => a.rank ≤ b.rank) ∧
    (∀ other : List Candidate, other.Sublist cs → other.Pairwise (fun a b => a.rank ≤ b.rank) →
      other.length ≤ (orderChain cs).length) ∧
    (∃ picks, PicksChain cs picks ∧ orderChain cs = picks.filterMap fun j => cs[j]?) ∧
    (∀ rank, shouldFollow (orderChain cs) rank = none ↔ ∀ c ∈ orderChain cs, rank < c.rank) ∧
    (∀ rank i, shouldFollow (orderChain cs) rank = some i →
      ∃ newer c older, orderChain cs = newer ++ c :: older ∧ c.item = i ∧ c.rank ≤ rank ∧
        (∀ d ∈ orderChain cs, d.rank ≤ rank → d.rank ≤ c.rank) ∧ ∀ d ∈ newer, d.rank ≠ c.rank)

/-- Every well-formed command that a frame brings is what its port reads from the frame that the layouts of section 9.7
give for it: no field is dropped. The bytes of those frames are those of 9.7.2 to 9.7.4, framed and checked by R158 and
R159. -/
def Obligations.PortsReadTheFramesTheyAreSent : Prop :=
  ArrivalLayouts ∧
  ∀ (i : Instr) (port : Port) (frame : List Byte),
    i.wellFormed = true → arrivalFrame i = some (port, frame) → receive port frame = some i

/-! ### Requests that take no time, and the Management Unit -/

/-- R178: IDENTIFY is answered OK whatever the state, and changes nothing else; the reply carries the codes and the
capacities of R178 in their order and widths. -/
def Obligations.IdentifyAnswersCodesAndCapacities : Prop :=
  (∀ (s : State) (before after : List Slot) (sl : Slot), Waiting s before sl after .identify →
    ∃ t, exec .identify s = .next t ∧ Answers s t before sl after 0x01 .ok none .identity ∧
      t = { s with requests := t.requests }) ∧
  bodyBytes .identity =
    wide 2 0x0E15 ++ wide 2 0x0048 ++ wide 1 3 ++ wide 4 8 ++ wide 4 2048 ++ wide 4 65536 ++ wide 4 512 ++ wide 4 16 ++ wide 4 4096 ++
      wide 4 640 ++ wide 4 64 ++ wide 4 256 ++ wide 4 32 ++ wide 4 8 ++ wide 4 16 ++ wide 4 17

/-- A request of undefined kind is answered UNKNOWN_REQUEST, echoing its kind code, with no effect (R174). -/
def Obligations.UnknownRequestIsAnswered : Prop :=
  ∀ (s : State) (before after : List Slot) (sl : Slot) (code : Nat) (args : List Byte),
    Waiting s before sl after (.unknown code args) →
    ∃ t, exec .unknownRequest s = .next t ∧ Answers s t before sl after code .unknownRequest none .none ∧
      t = { s with requests := t.requests }

/-- READ_STATUS changes nothing but its own slot; a selector above 6 is refused; section 0 carries the device figures,
1 the lanes', 2 and 3 the pool's figures with the contexts in use among eight, each with its number, 4 the engine's and the
Findings Queue's, 5 the store's and the Circulation Unit's, 6 the knots (R84, R179). That the request counts its own slot
as IN_SERVICE, and that the FREE slots are counted beside the four states of R171, are the model's readings (log entries
13 and 30), and so is that a FREE context has no figures of its own (log entry 12). -/
def Obligations.ReadStatusReportsItsSection : Prop :=
  ∀ (s : State) (before after : List Slot) (sl : Slot) (n : Nat), Waiting s before sl after (.readStatus n) →
    (6 < n → ∃ t, exec .readStatus s = .next t ∧ Answers s t before sl after 0x02 .badArgument none .none ∧
      t = { s with requests := t.requests }) ∧
    (n ≤ 6 → ∃ t body, exec .readStatus s = .next t ∧ Answers s t before sl after 0x02 .ok none body ∧
      t = { s with requests := t.requests } ∧
      (n = 0 → ∃ f : DeviceFigures, body = .device f ∧ f.clock = s.clock.value ∧ f.clockSet = s.clock.set ∧
        f.fieldUp = s.field.up ∧ f.trunkUp = s.trunk.up ∧ f.fieldDiscards = s.field.discards ∧
        f.trunkDiscards = s.trunk.discards ∧ f.fieldOutDrops = s.field.outDrops ∧
        f.fieldOutLength = s.field.out.length ∧
        (∀ l : Fin 8, f.pendingPause.getLsbD l.val = decide (s.field.signals[l.val] = some .pause)) ∧
        (∀ l : Fin 8, f.pendingResume.getLsbD l.val = decide (s.field.signals[l.val] = some .resume)) ∧
        f.requestDiscards = s.requests.discards ∧ f.slotsFree = 8 - s.requests.slots.length ∧
        f.slotsPending = (before ++ after).countP (fun x => decide (x.state = .pending)) ∧
        f.slotsInService = 1 + (before ++ after).countP (fun x => x.state matches .inService _) ∧
        f.slotsReplyReady = (before ++ after).countP (fun x => x.state matches .replyReady _) ∧
        f.slotsSending = (before ++ after).countP (fun x => x.state matches .sending _) ∧
        f.conditions = liveConditions s ∧ f.latches = s.notices.latches) ∧
      (n = 1 → ∃ fs : List LaneFigures, body = .lanes fs ∧ fs.length = 8 ∧ ∀ l : Fin 8, fs[l.val]? = some
        { state := laneCode (s.lane l).mode, base := (s.lane l).base, limit := (s.lane l).limit,
          current := currentSegment (s.lane l).mode, voidTally := (s.lane l).voidTally,
          dropTally := (s.lane l).dropTally, entries := (s.lane l).queue.length,
          sightings := (s.lane l).queue.countP isSighting, paused := (s.lane l).paused,
          overrun := (s.lane l).overrun }) ∧
      (n = 2 ∨ n = 3 → ∃ f : PoolFigures, body = .pool f ∧ f.freeSlots = s.pool.freeSlots ∧
        f.free + f.opened + f.closed = 16 ∧ f.free = s.pool.contexts.toList.countP (·.isNone) ∧
        f.closed = s.pool.contexts.toList.countP (fun c => decide (contextCode c = 2)) ∧
        f.opened = s.pool.contexts.toList.countP (fun c => decide (contextCode c = 1)) ∧
        f.contexts.Pairwise (fun a b => a.1 < b.1) ∧
        ∀ c ctx, (c, ctx) ∈ f.contexts ↔ (n = 2 ↔ c.val < 8) ∧ s.context c = some ctx) ∧
      (n = 4 → body = .settle
        { engine := engineCode s.settle.engine, segment := segmentInSettle s.settle.engine, queue := s.settle.queue,
          findings := s.findq.records.length, lostTally := s.findq.lostTally,
          findqHigh := decide (s.opts.fqHigh ≤ s.findq.records.length), findqLost := s.findq.lost }) ∧
      (n = 5 → body = .store
        { freeCount := s.store.freeCount, largestFree := s.store.largestFree, deferred := s.circ.deferred.length,
          applied := s.circ.applied, deferredTally := s.circ.deferredTally, ignored := s.circ.ignored,
          dropped := s.circ.dropped }) ∧
      (n = 6 → body = .knots s.weights))

/-- OPTION READ answers the stored value of each of the nineteen words and changes nothing; an OPTION with an operation
above 3 or a code above 0x12 is refused with BAD_ARGUMENT and changes nothing (R175, R176). Which of the four rows serves
an operation above 3 is the model's choice: any of them does (log entry 10). -/
def Obligations.OptionReadsAndRefusalsChangeNothing : Prop :=
  (∀ (s : State) (before after : List Slot) (sl : Slot) (code : Nat) (value : BitVec 32) (x : Int),
    wordValue s.opts code = some x → Waiting s before sl after (.option 0 code value) →
    ∃ t, exec .optionRead s = .next t ∧ AnswersOnly s t before sl after 0x03 .ok none (.option code x)) ∧
  ∀ (s : State) (before after : List Slot) (sl : Slot) (op code : Nat) (value : BitVec 32) (own : Nat) (i : Instr),
    Waiting s before sl after (.option op code value) →
    (own = 0 ∧ i = .optionRead ∨ own = 1 ∧ i = .optionWrite ∨ own = 2 ∧ i = .optionSet ∨ own = 3 ∧ i = .optionClear) →
    (3 < op ∨ op = own ∧ 0x12 < code) →
    ∃ t, exec i s = .next t ∧ AnswersOnly s t before sl after 0x03 .badArgument none .none

/-- OPTION WRITE, SET and CLEAR store what R176 computes, clamped or cut to the word (R175), and answer the stored value.
A LANE_AF at or below the stored AE lowers AE to AF − 1, and no other word changes. Storing the value already stored
changes nothing. A new LANE_AF or LANE_AE has the thresholds and the end of an overrun episode evaluated for every lane
not DETACHED (R54 to R57), and a new FQ_RESUME the resumption of a STALLED engine (R116). Words without a reaction of
their own change nothing else but what edges of conditions do to the notices (R177). -/
def Obligations.OptionWritesStoreTheComputedValue : Prop :=
  ∀ (s : State) (before after : List Slot) (sl : Slot) (op code : Nat) (value : BitVec 32) (x : Int) (i : Instr)
    (computed : Int),
    OptionsOk s.opts → wordValue s.opts code = some x → Waiting s before sl after (.option op code value) →
    (op = 1 ∧ i = .optionWrite ∧ computed = value.toInt ∨
      op = 2 ∧ i = .optionSet ∧ computed = (BitVec.ofInt 32 x ||| value).toInt ∨
      op = 3 ∧ i = .optionClear ∧ computed = (BitVec.ofInt 32 x &&& ~~~value).toInt) →
    ∃ t, exec i s = .next t ∧
      wordValue t.opts code = some (storedAs s.opts code computed) ∧
      Answers s t before sl after 0x03 .ok none (.option code (storedAs s.opts code computed)) ∧
      (code = 0x02 → (t.opts.laneAE : Int) = min (s.opts.laneAE : Int) (storedAs s.opts code computed - 1)) ∧
      (∀ other, other ≠ code → ¬ (code = 0x02 ∧ other = 0x03) → wordValue t.opts other = wordValue s.opts other) ∧
      t.clock = s.clock ∧ t.weights = s.weights ∧ t.circ = s.circ ∧ t.trunk = s.trunk ∧
      (t.opts = s.opts → t = { s with requests := t.requests }) ∧
      (code = 0x02 ∨ code = 0x03 → t.opts ≠ s.opts →
        (∀ l : Fin 8, (s.lane l).mode = .detached →
          t.lane l = s.lane l ∧ t.field.signals[l.val] = s.field.signals[l.val]) ∧
        (∀ l : Fin 8, (s.lane l).mode ≠ .detached →
          let y := pausesAt t.opts [(s.lane l).queue.length] (s.lane l).paused s.field.signals[l.val]
          t.lane l = { s.lane l with paused := y.1, overrun := (s.lane l).overrun &&
                                       decide (t.opts.laneAE < (s.lane l).queue.length) } ∧
            t.field.signals[l.val] = y.2) ∧
        t.field = { s.field with signals := t.field.signals } ∧ t.lanes.next = s.lanes.next ∧
        t = { s with requests := t.requests, opts := t.opts, lanes := t.lanes, field := t.field,
                     notices := t.notices }) ∧
      (code = 0x0D → t.opts ≠ s.opts →
        ∃ u, exec .settleResume { s with opts := t.opts } = .next u ∧ t = { u with requests := t.requests }) ∧
      (code ≠ 0x01 → code ≠ 0x02 → code ≠ 0x03 → code ≠ 0x0D →
        t = { s with requests := t.requests, opts := t.opts, notices := t.notices })

/-- R27: a WRITE, SET or CLEAR of LANE_ENABLE detaches each lane whose bit it clears, if the lane is not DETACHED, as R26
lays down: its queue is discarded into the drop tally, its context closed with cause LANE_DOWN, its flags and signal
cleared, in increasing lane number. Every other lane stays as it is, but that an empty close sets the re-evaluation flag
of a WAITING lane (R34). -/
def Obligations.LaneEnableWriteDetachesLanes : Prop :=
  ∀ (s : State) (before after : List Slot) (sl : Slot) (op : Nat) (value : BitVec 32) (i : Instr),
    ClaimsOk s → Waiting s before sl after (.option op 0x01 value) →
    (op = 1 ∧ i = .optionWrite ∨ op = 2 ∧ i = .optionSet ∨ op = 3 ∧ i = .optionClear) →
    ∃ t, exec i s = .next t ∧
      (∀ l : Fin 8, t.opts.laneEnable.getLsbD l.val =
        if op = 1 then value.getLsbD l.val
        else if op = 2 then s.opts.laneEnable.getLsbD l.val || value.getLsbD l.val
        else s.opts.laneEnable.getLsbD l.val && !value.getLsbD l.val) ∧
      Detaches s t (fun l => s.opts.laneEnable.getLsbD l.val && !t.opts.laneEnable.getLsbD l.val) ∧
      t = { s with requests := t.requests, opts := t.opts, lanes := t.lanes, field := t.field, store := t.store,
                   pool := t.pool, settle := t.settle, notices := t.notices }

/-- SET_WINDOW: refused with BAD_ARGUMENT for a lane above 7, a base above the limit or a limit above 2,048, then with
BUSY for a lane IN_SEGMENT or WAITING; otherwise the lane takes the window and nothing else changes (R42). -/
def Obligations.SetWindowSetsAFreeLanesWindow : Prop :=
  ∀ (s : State) (before after : List Slot) (sl : Slot) (lane base limit : Nat),
    Waiting s before sl after (.setWindow lane base limit) →
    ((8 ≤ lane ∨ limit < base ∨ 2048 < limit) →
      ∃ t, exec .setWindow s = .next t ∧ Answers s t before sl after 0x04 .badArgument none .none ∧
        t = { s with requests := t.requests }) ∧
    ∀ l : Fin 8, l.val = lane → base ≤ limit → limit ≤ 2048 →
      (((∃ g d, (s.lane l).mode = .inSegment g d) ∨ ∃ r g f, (s.lane l).mode = .waiting r g f) →
        ∃ t, exec .setWindow s = .next t ∧ Answers s t before sl after 0x04 .busy none .none ∧
          t = { s with requests := t.requests }) ∧
      ((s.lane l).mode = .detached ∨ (s.lane l).mode = .idle ∨ (s.lane l).mode = .inVoid →
        ∃ t, exec .setWindow s = .next t ∧ Answers s t before sl after 0x04 .ok none (.window base limit) ∧
          t.lane l = { s.lane l with base := base, limit := limit } ∧ (∀ m, m ≠ l → t.lane m = s.lane m) ∧
          t.lanes.next = s.lanes.next ∧ t = { s with requests := t.requests, lanes := t.lanes })

/-- SET_CLOCK: refused with BUSY while a segment is COUNTING or SETTLING; otherwise the clock takes the value and its set
flag is set, and nothing else changes but what an edge of SETTLE_STALLED does to the notices. The reply carries the
clock and the flag as they stand after the request (R181). -/
def Obligations.SetClockSetsTheClockUnlessCounting : Prop :=
  ∀ (s : State) (before after : List Slot) (sl : Slot) (value : Time), Waiting s before sl after (.setClock value) →
    ((∃ e ∈ s.store.segments, e.2.busy) →
      ∃ t, exec .setClock s = .next t ∧
        Answers s t before sl after 0x05 .busy none (.clock s.clock.value s.clock.set) ∧
        t = { s with requests := t.requests }) ∧
    ((∀ e ∈ s.store.segments, ¬ e.2.busy) →
      ∃ t, exec .setClock s = .next t ∧ Answers s t before sl after 0x05 .ok none (.clock value true) ∧
        t.clock = { value := value, set := true } ∧
        t.notices = (withEdges s fun s => { s with clock := { value := value, set := true } }).notices ∧
        t = { s with requests := t.requests, clock := t.clock, notices := t.notices })

/-- LOAD_WEIGHTS: refused with BUSY while a segment is COUNTING or SETTLING; otherwise all 17 knots are replaced at once.
Either reply carries the knots in force, and nothing else changes (R92). -/
def Obligations.LoadWeightsReplacesAllKnotsUnlessCounting : Prop :=
  ∀ (s : State) (before after : List Slot) (sl : Slot) (knots : Vector (BitVec 16) 17),
    Waiting s before sl after (.loadWeights knots) →
    ((∃ e ∈ s.store.segments, e.2.busy) →
      ∃ t, exec .loadWeights s = .next t ∧ Answers s t before sl after 0x0F .busy none (.knots s.weights) ∧
        t = { s with requests := t.requests }) ∧
    ((∀ e ∈ s.store.segments, ¬ e.2.busy) →
      ∃ t, exec .loadWeights s = .next t ∧ Answers s t before sl after 0x0F .ok none (.knots knots) ∧
        t = { s with requests := t.requests, weights := knots })

/-- R185: READ_NOTICES answers the conditions and latches as they stand, clears every latch and withdraws a waiting NOTICE.
Nothing else changes, so a NOTICE whose sending has begun goes on with what it carries. -/
def Obligations.ReadNoticesAnswersAndClears : Prop :=
  ∀ (s : State) (before after : List Slot) (sl : Slot), Waiting s before sl after .readNotices →
    ∃ t, exec .readNotices s = .next t ∧
      Answers s t before sl after 0x10 .ok none (.notices (liveConditions s) s.notices.latches) ∧
      t = { s with requests := t.requests, notices := { latches := 0, waiting := false } }

/-- R169 and R172: a well-formed REQUEST frame joins the tail of the Request Queue as PENDING, with its arrival time, below
eight slots; otherwise it is discarded and the request-discard tally rises. Nothing else changes: the port does not
count it. -/
def Obligations.RequestJoinsAFreeSlot : Prop :=
  ∀ (s : State) (tag : Byte) (req : Request), (Instr.request tag req).wellFormed = true → Receives s .trunk →
    (s.requests.slots.length < 8 → exec (.request tag req) s = .next { s with requests := { s.requests with
      slots := s.requests.slots ++ [{ tag := tag, request := req, arrival := s.clock.value, state := .pending }] } }) ∧
    (8 ≤ s.requests.slots.length → exec (.request tag req) s = .next { s with requests := { s.requests with
      discards := raised s.requests.discards 1 } })

/-! ### Resets -/

/-- RESTART_COUNT served: the request holds the head of the queue; segments, items, lanes, contexts, engine, Deferred
Queue, Findings Queue and Field-Out Queue take what R21, R44, R62, R85, R125, R141, R155 and R170 lay down, and what
those rules keep stays. The deferred events are applied oldest first, and counted as applied, or as ignored where their
tag names no item (R141). That all of it is one step is the model's reading (log entry 5). Completion makes the reply and
lets the arbiter go on (R187). -/
def Obligations.RestartCountResetsTheCount : Prop :=
  (∀ (s : State) (before after : List Slot) (sl : Slot), Waiting s before sl after .restartCount →
    ∃ t, exec .restartCount s = .next t ∧ Begins s t before sl after .restart ∧
      (∀ g r, s.segment g = some r → t.segment g = some
        (match r.phase with
          | .loading _ => r
          | _ => { r with phase := .ready, countNumber := 0, last := none })) ∧
      (∀ g, s.segment g = none → t.segment g = none) ∧
      (∀ i, s.item i = none → t.item i = none) ∧
      (∀ i it, s.item i = some it → ∃ it', t.item i = some it' ∧ it'.tag = it.tag ∧ it'.rank = it.rank ∧
        it'.home = it.home ∧ it'.result = .uncounted ∧ it'.placed = none ∧ it'.estimate = none ∧ it'.stamp = none ∧
        it'.hold = false ∧
        ((∀ e ∈ s.circ.deferred, s.lookup e.tag ≠ some i) →
          it'.status = it.status ∧ it'.statusTime = it.statusTime) ∧
        (∀ older e newer, s.circ.deferred = older ++ e :: newer → s.lookup e.tag = some i →
          (∀ f ∈ newer, s.lookup f.tag ≠ some i) →
          it'.status = statusOf e ∧ it'.statusTime = some e.arrival)) ∧
      (TalliesOk s →
        let named := s.circ.deferred.countP fun e => ((s.lookup e.tag).bind s.item).isSome
        t.circ.applied = raised s.circ.applied named ∧
          t.circ.ignored = raised s.circ.ignored (s.circ.deferred.length - named)) ∧
      t.store.tagIndex = s.store.tagIndex ∧ t.store.freeCount = s.store.freeCount ∧
      t.store.largestFree = s.store.largestFree ∧
      (∀ l : Fin 8, (s.lane l).mode = .detached → t.lane l = s.lane l) ∧
      (∀ l : Fin 8, (s.lane l).mode ≠ .detached →
        t.lane l = { s.lane l with mode := .idle, queue := [], paused := false, overrun := false,
                                   dropTally := raised (s.lane l).dropTally (s.lane l).queue.length } ∧
        t.field.signals[l.val] = if (s.lane l).paused then some .resume else s.field.signals[l.val]) ∧
      t.lanes.next = s.lanes.next ∧ (∀ c : Fin 16, t.context c = none) ∧ t.pool.freeSlots = 4096 ∧
      t.settle = { queue := [], engine := .idle } ∧ t.circ.deferred = [] ∧ t.circ.dropped = s.circ.dropped ∧
      t.circ.deferredTally = s.circ.deferredTally ∧
      t.findq.records = (if (s.trunk.tx.map (·.what)) = some .finding then s.findq.records.take 1 else []) ∧
      t.findq.lost = false ∧ t.findq.lostTally = s.findq.lostTally ∧
      t.field.out = (if (s.field.tx.map (·.what)) = some .queued then s.field.out.take 1 else []) ∧
      t.field.tx = s.field.tx ∧ t.field.up = s.field.up ∧ t.field.discards = s.field.discards ∧
      t.field.outDrops = s.field.outDrops ∧ t.field.controlPtr = s.field.controlPtr ∧ t.trunk = s.trunk ∧
      t.weights = s.weights ∧ t.opts = s.opts ∧ t.clock = s.clock) ∧
  ∀ (s : State) (before after : List Slot) (sl : Slot), InWork s before sl after .restartCount .restart →
    ∃ t, exec .restartCountComplete s = .next t ∧ Answers s t before sl after 0x11 .ok none .none ∧
      t = { s with requests := t.requests }

/-- Full resets: RESET leaves every block at its reset contents, every other slot FREE and its own slot IN_SERVICE, and at
its completion each link state is read and the reply carries the identity codes (R186). Power-on and the reset input
empty every slot (R170, R186); the reset input holds the part until its release, when each link state is read (R162,
R170, R180). The receivers' signals, the reset input and the waiting commands are inputs and stay, which is the model's
choice (log entry 26). -/
def Obligations.FullResetsLeaveTheResetState : Prop :=
  (∀ (s : State) (before after : List Slot) (sl : Slot), Waiting s before sl after .reset →
    exec .reset s = .next { State.reset with
      field := { State.reset.field with signal := s.field.signal, up := s.field.up },
      trunk := { State.reset.trunk with signal := s.trunk.signal, up := s.trunk.up },
      requests := { slots := [{ sl with state := .inService .reset }], discards := 0 },
      resetPin := s.resetPin, pending := s.pending }) ∧
  (∀ (s : State) (before after : List Slot) (sl : Slot), InWork s before sl after .reset .reset →
    ∃ t, exec .resetComplete s = .next t ∧ Answers s t before sl after 0x12 .ok none .resetIdentity ∧
      t = { s with requests := t.requests, field := { s.field with up := s.field.signal },
                   trunk := { s.trunk with up := s.trunk.signal } }) ∧
  bodyBytes .resetIdentity = wide 2 0x0E15 ++ wide 2 0x0048 ++ wide 1 3 ∧
  (∀ s : State, s.resetPin = false → exec .powerOn s = .next { State.reset with
      field := { State.reset.field with signal := s.field.signal, up := s.field.signal },
      trunk := { State.reset.trunk with signal := s.trunk.signal, up := s.trunk.signal },
      pending := s.pending }) ∧
  (∀ s : State, exec .resetInputAssert s = .next { State.reset with
      field := { State.reset.field with signal := s.field.signal, up := s.field.up },
      trunk := { State.reset.trunk with signal := s.trunk.signal, up := s.trunk.up },
      resetPin := true, pending := s.pending }) ∧
  ∀ s : State, s.resetPin = true → exec .resetInputRelease s = .next { s with
      field := { s.field with up := s.field.signal }, trunk := { s.trunk with up := s.trunk.signal },
      resetPin := false }

/-! ### The Shelf List Store -/

/-- LOAD_BEGIN: refused for a field out of range, for a segment not UNLOADED, and when no free stretch has the item
count's length; otherwise the segment is LOADING with the lowest such stretch as its run (R9, R10). -/
def Obligations.LoadBeginTakesTheLowestStretch : Prop :=
  ∀ (s : State) (before after : List Slot) (sl : Slot) (g count presence twin : Nat),
    TablesOk s → RunsOk s → Waiting s before sl after (.loadBegin g count presence twin) →
    let n := if count = 0 then 512 else count
    let bad := 2048 ≤ g ∨ 511 < count ∨ 1 < presence ∨ (presence = 1 ∧ (2048 ≤ twin ∨ twin = g))
    (bad → ∃ t, exec .loadBegin s = .next t ∧ Refuses s t before sl after 0x06 .badArgument g .none) ∧
    (¬ bad → s.segment g ≠ none →
      ∃ t, exec .loadBegin s = .next t ∧ Refuses s t before sl after 0x06 .wrongState g .none) ∧
    (¬ bad → s.segment g = none → (∀ start, ¬ FreeAt s start n) →
      ∃ t, exec .loadBegin s = .next t ∧
        Refuses s t before sl after 0x06 .noSpace g (.largestFree s.store.largestFree)) ∧
    ∀ start, ¬ bad → s.segment g = none → FreeAt s start n → (∀ k, k < start → ¬ FreeAt s k n) →
      ∃ t, exec .loadBegin s = .next t ∧
        Answers s t before sl after 0x06 .ok (stateByte t g) (.firstItem start) ∧
        t.segment g = some { phase := .loading 0, twin := if presence = 1 then some twin else none,
                             firstItem := start, itemCount := n, countNumber := 0, last := none } ∧
        (∀ h, h ≠ g → t.segment h = s.segment h) ∧ t.store.freeCount + n = s.store.freeCount ∧
        t.store.items = s.store.items ∧ t.store.tagIndex = s.store.tagIndex ∧
        t = { s with requests := t.requests, store := t.store }

/-- LOAD_ITEMS, in the order of its checks: a field out of range, a segment not LOADING, an offset that is not loaded so
far, a record beyond the item count, the first rank that falls; each refusal writes nothing. Otherwise record j is
written into slot first item + offset + j as R4 lays down, and loaded so far rises (R11). -/
def Obligations.LoadItemsWritesTheNextRecords : Prop :=
  ∀ (s : State) (before after : List Slot) (sl : Slot) (g offset : Nat) (records : List WireItem),
    Waiting s before sl after (.loadItems g offset records) →
    ((2048 ≤ g ∨ ∃ x ∈ records, 5 < x.status) →
      ∃ t, exec .loadItems s = .next t ∧ Refuses s t before sl after 0x07 .badArgument g .none) ∧
    (g < 2048 → (∀ x ∈ records, x.status ≤ 5) →
      ((∀ r n, s.segment g = some r → r.phase ≠ .loading n) →
        ∃ t, exec .loadItems s = .next t ∧ Refuses s t before sl after 0x07 .wrongState g .none) ∧
      ∀ r n, s.segment g = some r → r.phase = .loading n →
        (offset ≠ n →
          ∃ t, exec .loadItems s = .next t ∧ Refuses s t before sl after 0x07 .sequenceError g (.loadedSoFar n)) ∧
        (offset = n → r.itemCount < offset + records.length →
          ∃ t, exec .loadItems s = .next t ∧ Refuses s t before sl after 0x07 .badArgument g .none) ∧
        (offset = n → offset + records.length ≤ r.itemCount →
          (∀ j, Drops s r n records j → (∀ k, k < j → ¬ Drops s r n records k) →
            ∃ t, exec .loadItems s = .next t ∧
              Refuses s t before sl after 0x07 .orderError g (.offset (offset + j))) ∧
          ((∀ j, ¬ Drops s r n records j) →
            ∃ t, exec .loadItems s = .next t ∧
              Answers s t before sl after 0x07 .ok (stateByte t g) (.loadedSoFar (n + records.length)) ∧
              t.segment g = some { r with phase := .loading (n + records.length) } ∧
              (∀ h, h ≠ g → t.segment h = s.segment h) ∧
              (∀ j x, records[j]? = some x → ∃ st, circCode st = x.status ∧
                t.item (r.firstItem + offset + j) = some
                  { tag := x.tag, rank := x.rank, home := g, status := st, statusTime := none, result := .uncounted,
                    placed := none, estimate := none, stamp := none, hold := false }) ∧
              (∀ i, i < r.firstItem + offset ∨ r.firstItem + offset + records.length ≤ i → t.item i = s.item i) ∧
              t.store = { s.store with segments := t.store.segments, items := t.store.items } ∧
              t = { s with requests := t.requests, store := t.store })))

/-- LOAD_END: refused with BAD_ARGUMENT, WRONG_STATE or COUNT_MISMATCH; otherwise its duplicate check begins, and it holds
the head of the Request Queue with the segment LOADING (R12). The end of the check (R13): with no offending record the
segment is READY and every record of the run indexed; else the run is given back, and the reply names the offset of the
first offending record and, if it is indexed, the item its tag is indexed to. -/
def Obligations.LoadEndChecksForDuplicates : Prop :=
  ∀ (s : State) (before after : List Slot) (sl : Slot) (g : Nat),
    (Waiting s before sl after (.loadEnd g) →
      (2048 ≤ g → ∃ t, exec .loadEnd s = .next t ∧ Refuses s t before sl after 0x08 .badArgument g .none) ∧
      (g < 2048 → (∀ r n, s.segment g = some r → r.phase ≠ .loading n) →
        ∃ t, exec .loadEnd s = .next t ∧ Refuses s t before sl after 0x08 .wrongState g .none) ∧
      ∀ r n, g < 2048 → s.segment g = some r → r.phase = .loading n →
        (n < r.itemCount →
          ∃ t, exec .loadEnd s = .next t ∧ Refuses s t before sl after 0x08 .countMismatch g (.loadedSoFar n)) ∧
        (r.itemCount ≤ n → ∃ t, exec .loadEnd s = .next t ∧ Begins s t before sl after .duplicateCheck ∧
          t = { s with requests := t.requests })) ∧
    ∀ r n, InWork s before sl after (.loadEnd g) .duplicateCheck → TablesOk s → RunsOk s →
      s.segment g = some r → r.phase = .loading n →
      ((∀ i, ¬ Offends s r i) →
        ∃ t, exec .loadEndCheckDone s = .next t ∧
          Answers s t before sl after 0x08 .ok (stateByte t g) (.itemCount r.itemCount) ∧
          t.segment g = some { r with phase := .ready } ∧ (∀ h, h ≠ g → t.segment h = s.segment h) ∧
          (∀ i it, inRun r i = true → s.item i = some it → t.lookup it.tag = some i) ∧
          (∀ tag, (∀ i it, inRun r i = true → s.item i = some it → it.tag ≠ tag) → t.lookup tag = s.lookup tag) ∧
          t.store = { s.store with segments := t.store.segments, tagIndex := t.store.tagIndex } ∧
          t = { s with requests := t.requests, store := t.store }) ∧
      ∀ i it, Offends s r i → (∀ k, k < i → ¬ Offends s r k) → s.item i = some it →
        ∃ t, exec .loadEndCheckDone s = .next t ∧
          Answers s t before sl after 0x08 .duplicateTag (stateByte t g)
            (.duplicate (i - r.firstItem) (s.lookup it.tag)) ∧
          GivenBack s t g r ∧ t.store.tagIndex = s.store.tagIndex ∧
          t = { s with requests := t.requests, store := t.store }

/-- LOAD_ABORT gives a LOADING segment's run back (R14). UNLOAD gives back the run of a READY or SETTLED segment none of
whose items is held, after its items have left the Tag Index and every observation that names one of them has lost its
item index, in a CLOSED context too by the model's reading (log entry 16); another segment's items keep their located
segments (R15). The refusals change nothing. -/
def Obligations.AbortAndUnloadGiveTheRunBack : Prop :=
  ∀ (s : State) (before after : List Slot) (sl : Slot) (g : Nat), TablesOk s → RunsOk s →
    (Waiting s before sl after (.loadAbort g) →
      (2048 ≤ g → ∃ t, exec .loadAbort s = .next t ∧ Refuses s t before sl after 0x09 .badArgument g .none) ∧
      (g < 2048 → (∀ r n, s.segment g = some r → r.phase ≠ .loading n) →
        ∃ t, exec .loadAbort s = .next t ∧ Refuses s t before sl after 0x09 .wrongState g .none) ∧
      ∀ r n, s.segment g = some r → r.phase = .loading n →
        ∃ t, exec .loadAbort s = .next t ∧ Answers s t before sl after 0x09 .ok (some 0) .none ∧ GivenBack s t g r ∧
          t.store.tagIndex = s.store.tagIndex ∧ t = { s with requests := t.requests, store := t.store }) ∧
    (Waiting s before sl after (.unload g) →
      (2048 ≤ g → ∃ t, exec .unload s = .next t ∧ Refuses s t before sl after 0x0A .badArgument g .none) ∧
      (g < 2048 → (∀ r, s.segment g = some r → r.phase ≠ .ready ∧ r.phase ≠ .settled) →
        ∃ t, exec .unload s = .next t ∧ Refuses s t before sl after 0x0A .wrongState g .none) ∧
      ∀ r, s.segment g = some r → r.phase = .ready ∨ r.phase = .settled →
        ((∃ i it, inRun r i = true ∧ s.item i = some it ∧ it.hold = true) →
          ∃ t, exec .unload s = .next t ∧ Refuses s t before sl after 0x0A .busy g .none) ∧
        ((∀ i it, inRun r i = true → s.item i = some it → it.hold = false) →
          ∃ t, exec .unload s = .next t ∧ Answers s t before sl after 0x0A .ok (some 0) .none ∧ GivenBack s t g r ∧
            (∀ tag i, t.lookup tag = some i ↔ s.lookup tag = some i ∧ inRun r i = false) ∧
            (∀ c, t.context c = (s.context c).map fun ctx => { ctx with
              observations := ctx.observations.map fun o =>
                if o.item.any (inRun r) then { o with item := none } else o }) ∧
            t.pool.freeSlots = s.pool.freeSlots ∧
            t = { s with requests := t.requests, store := t.store, pool := t.pool }))

/-- RECOUNT makes a SETTLED segment READY and changes nothing else, leaves a READY one as it is, and is refused otherwise
(R16). QUERY_SEGMENT is answered OK in every state with the segment's record, and changes nothing (R17). -/
def Obligations.RecountAndQuerySegment : Prop :=
  ∀ (s : State) (before after : List Slot) (sl : Slot) (g : Nat),
    (Waiting s before sl after (.recount g) →
      (2048 ≤ g → ∃ t, exec .recount s = .next t ∧ Refuses s t before sl after 0x0B .badArgument g .none) ∧
      (g < 2048 → (∀ r, s.segment g = some r → r.phase ≠ .ready ∧ r.phase ≠ .settled) →
        ∃ t, exec .recount s = .next t ∧ Refuses s t before sl after 0x0B .wrongState g .none) ∧
      ∀ r, g < 2048 → s.segment g = some r →
        (r.phase = .ready → ∃ t, exec .recount s = .next t ∧
          AnswersOnly s t before sl after 0x0B .ok (stateByte s g) .none) ∧
        (r.phase = .settled → ∃ t, exec .recount s = .next t ∧
          Answers s t before sl after 0x0B .ok (stateByte t g) .none ∧
          t.segment g = some { r with phase := .ready } ∧ (∀ h, h ≠ g → t.segment h = s.segment h) ∧
          t.store = { s.store with segments := t.store.segments } ∧
          t = { s with requests := t.requests, store := t.store })) ∧
    (Waiting s before sl after (.querySegment g) →
      (2048 ≤ g → ∃ t, exec .querySegment s = .next t ∧ Refuses s t before sl after 0x0D .badArgument g .none) ∧
      (g < 2048 → ∃ t, exec .querySegment s = .next t ∧
        AnswersOnly s t before sl after 0x0D .ok (stateByte s g) (.segment (s.segment g))))

/-- QUERY_ITEM: refused for another selector than 0 or 1 and for an item index above 65,535; NOT_FOUND where no written
item is named; answered at once with the whole record when the item is not held; else it waits at the head of the queue.
A wait that has cleared is answered with the record the settle left (R18; log entry 8). Nothing else changes. -/
def Obligations.QueryItemAnswersOrWaitsForTheHold : Prop :=
  ∀ (s : State) (before after : List Slot) (sl : Slot) (selector : Nat) (value : BitVec 64),
    (Waiting s before sl after (.queryItem selector value) →
      ((1 < selector ∨ (selector = 1 ∧ 65535 < value.toNat)) →
        ∃ t, exec .queryItem s = .next t ∧ AnswersOnly s t before sl after 0x0E .badArgument none .none) ∧
      ∀ index : Option Nat, (selector = 0 ∧ index = s.lookup value ∨
          selector = 1 ∧ value.toNat ≤ 65535 ∧ index = some value.toNat) →
        ((∀ i, index = some i → s.item i = none) →
          ∃ t, exec .queryItem s = .next t ∧ AnswersOnly s t before sl after 0x0E .notFound none .none) ∧
        ∀ i it, index = some i → s.item i = some it →
          (it.hold = false →
            ∃ t, exec .queryItem s = .next t ∧ AnswersOnly s t before sl after 0x0E .ok none (.item i it)) ∧
          (it.hold = true →
            ∃ t, exec .queryItem s = .next t ∧ Begins s t before sl after (.holdWait i) ∧
              t = { s with requests := t.requests })) ∧
    ∀ i it, InWork s before sl after (.queryItem selector value) (.holdCleared i it) →
      ∃ t, exec .queryItemHoldCleared s = .next t ∧ AnswersOnly s t before sl after 0x0E .ok none (.item i it)

/-! ### Lanes, Sighting Queues and count contexts -/

/-- LANE_UP: a DETACHED, enabled lane becomes IDLE with an empty queue and clear flags, and keeps its window and tallies;
any other lane is left as it is. Nothing else changes but the notices (R25). -/
def Obligations.LaneUpAttachesAnEnabledLane : Prop :=
  ∀ (s : State) (l : Fin 8), Receives s .field →
    ((s.lane l).mode = .detached → s.opts.laneEnable.getLsbD l.val = true →
      ∃ t, exec (.laneUp l.val) s = .next t ∧
        t.lane l = { s.lane l with mode := .idle, queue := [], paused := false, overrun := false } ∧
        OtherLanes s t l ∧ t.lanes.next = s.lanes.next ∧ t = { s with lanes := t.lanes, notices := t.notices }) ∧
    ((s.lane l).mode ≠ .detached ∨ s.opts.laneEnable.getLsbD l.val = false → exec (.laneUp l.val) s = .next s)

/-- LANE_DOWN detaches a lane that is not DETACHED: its queue is discarded into the drop tally, its flags are clear, a
control signal that waits for it is dropped, and a context it owns is closed with cause LANE_DOWN. A DETACHED lane is left
as it is (R26, R61, R78). -/
def Obligations.LaneDownDetaches : Prop :=
  ∀ (s : State) (l : Fin 8), Receives s .field →
    ((s.lane l).mode = .detached → exec (.laneDown l.val) s = .next s) ∧
    ((s.lane l).mode ≠ .detached →
      (NotCounting s l ∨ ∃ g c ctx, CountsIn s l g c ctx) →
      ∃ t, exec (.laneDown l.val) s = .next t ∧
        t.lane l = { s.lane l with mode := .detached, queue := [], paused := false, overrun := false,
                                   dropTally := raised (s.lane l).dropTally (s.lane l).queue.length } ∧
        t.field = { s.field with signals := s.field.signals.set l.val none l.isLt } ∧
        t.lanes.next = s.lanes.next ∧
        (NotCounting s l → CountsStay s t ∧ OtherLanes s t l) ∧
        (∀ g c ctx, CountsIn s l g c ctx → Closes s t c ctx l .laneDown) ∧
        t = { s with lanes := t.lanes, field := t.field, store := t.store, pool := t.pool, settle := t.settle,
                     notices := t.notices })

/-- ENTER and LEAVE frames: for a DETACHED lane they are dropped and counted (R28); below 64 entries they join the tail,
and the thresholds are evaluated at the new count (R49, R55, R56); at 64 the newest entry takes a gap mark, the drop tally
rises by 1, and LANE_MARKER_LOST is pushed (R50). No tally of the port rises. -/
def Obligations.MarkerFramesJoinOrAreLost : Prop :=
  ∀ (s : State) (l : Fin 8) (i : Instr) (k : EntryKind) (lost : Option Nat), Receives s .field →
    ((∃ rel, rel ≤ 2047 ∧ i = .enterFrame l.val rel ∧ k = .enter rel ∧ lost = some rel) ∨
      (i = .leaveFrame l.val ∧ k = .leave ∧ lost = none)) →
    ((s.lane l).mode = .detached →
      ∃ t, exec i s = .next t ∧ t.lane l = { s.lane l with dropTally := raised (s.lane l).dropTally 1 } ∧
        OtherLanes s t l ∧ t.lanes.next = s.lanes.next ∧ t = { s with lanes := t.lanes }) ∧
    ((s.lane l).mode ≠ .detached → (s.lane l).queue.length < 64 →
      ∃ t, exec i s = .next t ∧
        (let x := pausesAt s.opts [(s.lane l).queue.length + 1] (s.lane l).paused s.field.signals[l.val]
         t.lane l = { s.lane l with queue := (s.lane l).queue ++ [{ kind := k, gap := false }], paused := x.1 } ∧
          t.field = { s.field with signals := s.field.signals.set l.val x.2 l.isLt }) ∧
        OtherLanes s t l ∧ t.lanes.next = s.lanes.next ∧
        t = { s with lanes := t.lanes, field := t.field, notices := t.notices }) ∧
    ∀ older newest, (s.lane l).mode ≠ .detached → 64 ≤ (s.lane l).queue.length →
      (s.lane l).queue = older ++ [newest] →
      ∃ t, exec i s = .next t ∧
        t.lane l = { s.lane l with queue := older ++ [{ newest with gap := true }],
                                   dropTally := raised (s.lane l).dropTally 1 } ∧
        Pushed s t { kind := .laneMarkerLost, time := s.clock.value, lane := some l, reference := lost } ∧
        OtherLanes s t l ∧ t.lanes.next = s.lanes.next ∧
        t = { s with lanes := t.lanes, findq := t.findq, notices := t.notices }

/-- SIGHT frames: for a DETACHED lane the batch count is added to the drop tally (R28). Otherwise the sightings join the
tail in frame order while the queue holds fewer than 60 entries, each with its clamped RSSI (R87) and the frame's arrival
time (R47), and the thresholds are evaluated at every new count; the rest raise the drop tally, and the first of an
overrun episode pushes LANE_OVERRUN (R48, R53, R55, R56). -/
def Obligations.SightFramesJoinBelowSixty : Prop :=
  ∀ (s : State) (l : Fin 8) (frame : List WireSighting), Receives s .field →
    1 ≤ frame.length → frame.length ≤ 8 → (∀ w ∈ frame, w.positioned = true → w.position ≤ 4095) →
    ((s.lane l).mode = .detached →
      ∃ t, exec (.sightFrame l.val frame) s = .next t ∧
        t.lane l = { s.lane l with dropTally := raised (s.lane l).dropTally frame.length } ∧
        OtherLanes s t l ∧ t.lanes.next = s.lanes.next ∧ t = { s with lanes := t.lanes }) ∧
    ((s.lane l).mode ≠ .detached →
      ∃ t, exec (.sightFrame l.val frame) s = .next t ∧
        (let n := (s.lane l).queue.length
         let taken := frame.take (60 - n)
         let lost := frame.drop (60 - n)
         let x := pausesAt s.opts ((List.range taken.length).map fun j => n + 1 + j) (s.lane l).paused
           s.field.signals[l.val]
         t.lane l = { s.lane l with
            queue := (s.lane l).queue ++ taken.map fun w =>
              { kind := .sight w.tag (max (-100) (min (-20) w.rssi.toInt))
                  (if w.positioned then some w.position else none) s.clock.value, gap := false },
            paused := x.1, overrun := (s.lane l).overrun || !lost.isEmpty,
            dropTally := if lost = [] then (s.lane l).dropTally else raised (s.lane l).dropTally lost.length } ∧
          t.field = { s.field with signals := s.field.signals.set l.val x.2 l.isLt } ∧
          PushedIfAny s t (if lost ≠ [] ∧ (s.lane l).overrun = false then
            some { kind := .laneOverrun, time := s.clock.value, lane := some l } else none)) ∧
        OtherLanes s t l ∧ t.lanes.next = s.lanes.next ∧
        t = { s with lanes := t.lanes, field := t.field, findq := t.findq, notices := t.notices })

/-- A drain takes the head entry of the lane the arbiter serves next: the rest stays, the next-lane pointer moves past the
lane, an overrun episode ends at AE or below, and the thresholds are evaluated at the new count (R30, R54, R55, R56, R59).
The lane's window stays, and but for a SIGHT its void-sighting tally (R36). No other lane's queue, flags or signal changes:
its re-evaluation flag alone may be set, which is said first, and which leaves a lane that is not WAITING as it is (R34).
Which entry kind each drain takes is the row's. -/
def Obligations.DrainsTakeTheHeadEntry : Prop :=
  (∀ r : Lane, (∀ rel gap f, r.mode = .waiting rel gap f → flagLane r = { r with mode := .waiting rel gap true }) ∧
    ((∀ rel gap f, r.mode ≠ .waiting rel gap f) → flagLane r = r)) ∧
  ∀ (s : State) (i : Instr) (l : Fin 8) (e : Entry) (rest : List Entry), Drains s l e rest →
    (i = .drainEnter ∧ (∃ rel, e.kind = .enter rel) ∨
      i = .drainSight ∧ (∃ tag rssi p at_, e.kind = .sight tag rssi p at_) ∨ i = .drainLeave ∧ e.kind = .leave) →
    ∃ t, exec i s = .next t ∧ t.lanes.next = l + 1 ∧
      (let x := pausesAt s.opts [rest.length] (s.lane l).paused s.field.signals[l.val]
       (t.lane l).queue = rest ∧ (t.lane l).paused = x.1 ∧
        (t.lane l).overrun = ((s.lane l).overrun && decide (s.opts.laneAE < rest.length)) ∧
        t.lane l = { s.lane l with mode := (t.lane l).mode, queue := (t.lane l).queue, paused := (t.lane l).paused,
                                   overrun := (t.lane l).overrun, voidTally := (t.lane l).voidTally } ∧
        (i ≠ .drainSight → (t.lane l).voidTally = (s.lane l).voidTally) ∧
        t.field = { s.field with signals := s.field.signals.set l.val x.2 l.isLt }) ∧
      (∀ m, m ≠ l → t.lane m = s.lane m ∨ t.lane m = flagLane (s.lane m)) ∧
      t.store.items = s.store.items ∧ t.store.tagIndex = s.store.tagIndex ∧
      t = { s with lanes := t.lanes, field := t.field, store := t.store, pool := t.pool, settle := t.settle,
                   findq := t.findq, notices := t.notices }

/-- An ENTER within the window, of a segment that may be counted, with a context FREE: the lowest-numbered FREE context is
opened with the contents of R69, the segment is COUNTING in it, and the lane is IN_SEGMENT with its dwell timer started
(R32, R39). With a gap mark the context, which is empty, is closed at once, the lane is IN_VOID, and the re-evaluation flag
of every WAITING lane is set (R34, R38, R82). A lane that was IN_SEGMENT has first closed its context with cause NEW_ENTER,
which sets those flags too if it was empty (R31, R34). No other lane changes. The next-lane pointer moves past the lane, and
what else an ENTER leaves as it was stays (R30). -/
def Obligations.EnterOpensTheLowestFreeContext : Prop :=
  ∀ (s : State) (i : Instr) (l : Fin 8) (rel : Nat) (gap : Bool), EnterServed s i l rel gap →
    (NotCounting s l ∨ ∃ g c ctx, CountsIn s l g c ctx) →
    ∃ u t, EntersFrom s u l ∧ exec i s = .next t ∧ EnterKeeps s t i l ∧
      ∀ (r : Segment) (c : Fin 16) (prior : Prior),
        (u.lane l).base + rel < (u.lane l).limit → u.segment ((u.lane l).base + rel) = some r →
        Countable u r prior → LowestFree u c →
        let g := (u.lane l).base + rel
        (gap = false →
          t.context c = some { segment := g, phase := .opened l, prior := prior, openTime := s.clock.value,
                               truncated := false, capDiscards := 0, poolDiscards := 0, observations := [] } ∧
            t.segment g = some { r with phase := .counting c } ∧
            (t.lane l).mode = .inSegment g (dwellOf s.opts l) ∧
            (∀ d, d ≠ c → t.context d = u.context d) ∧ (∀ h, h ≠ g → t.segment h = u.segment h)) ∧
        (gap = true →
          (t.lane l).mode = .inVoid ∧ (∀ d, t.context d = u.context d) ∧ (∀ h, t.segment h = u.segment h)) ∧
        (∀ m, m ≠ l → t.lane m = if gap then flagLane (u.lane m) else u.lane m) ∧
        t.pool.freeSlots = u.pool.freeSlots ∧ t.settle = u.settle ∧ t.findq = s.findq

/-- Every other ENTER: refused with RANGE_REFUSED, CLAIM_CONFLICT or SEGMENT_NOT_READY, pushed at the time of evaluation,
with the lane IN_VOID; or, for a SETTLING segment and for a countable one while no context is FREE, held as the pending
ENTER with its gap mark, the lane WAITING with its re-evaluation flag clear (R31 to R33, R51). A lane that was IN_SEGMENT
has first closed its context, which, if it was empty, sets the re-evaluation flags of the others (R31, R34). The next-lane
pointer moves past the lane, and what else an ENTER leaves as it was stays (R30). -/
def Obligations.EnterIsRefusedOrWaits : Prop :=
  ∀ (s : State) (i : Instr) (l : Fin 8) (rel : Nat) (gap : Bool), EnterServed s i l rel gap →
    (NotCounting s l ∨ ∃ g c ctx, CountsIn s l g c ctx) →
    ∃ u t, EntersFrom s u l ∧ exec i s = .next t ∧ EnterKeeps s t i l ∧
      (∀ f, enterRefusal u l rel = some f →
        (t.lane l).mode = .inVoid ∧ Pushed s t f ∧ CountsStay u t ∧ OtherLanes u t l) ∧
      ((u.lane l).base + rel < (u.lane l).limit →
        ((∃ c, settlesIn u ((u.lane l).base + rel) c) ∨
          (∃ r prior, u.segment ((u.lane l).base + rel) = some r ∧ Countable u r prior ∧ ∀ c, u.context c ≠ none)) →
        (t.lane l).mode = .waiting rel gap false ∧ t.findq = s.findq ∧ CountsStay u t ∧ OtherLanes u t l)

/-- A SIGHT drained for a lane that is not IN_SEGMENT is a void sighting (R36). For a lane IN_SEGMENT it is admitted to the
lane's context in the order of R70: merged (R71), discarded at the cap or for an empty pool (R74, R75), or forming an
observation in a free slot with the item index the Tag Index then gives (R72), with the findings of R73 to R75; and the
dwell timer restarts, but under a dwell setting of 0, where it does not start again and a running one runs on (R39). That
this holds of a timer whose expiry is due too is the model's reading of R39 and R40 (log entry 27). With a gap mark the context is then closed with cause MARKER_LOST (R38): empty, its segment returns
to its prior state and every WAITING lane's re-evaluation flag is set (R34, R82); else it is handed off (R79). -/
def Obligations.SightsAreAdmittedToTheirContext : Prop :=
  ∀ (s : State) (l : Fin 8) (tag : Tag) (rssi : Int) (position : Option Nat) (arrival : Time) (gap : Bool)
    (rest : List Entry), Drains s l { kind := .sight tag rssi position arrival, gap := gap } rest →
    (NotCounting s l → ∃ t, exec .drainSight s = .next t ∧
      (t.lane l).voidTally = raised (s.lane l).voidTally 1 ∧ (t.lane l).mode = (s.lane l).mode ∧
      CountsStay s t ∧ t.findq = s.findq ∧ OtherLanes s t l) ∧
    ∀ g c ctx, CountsIn s l g c ctx → ∃ t, exec .drainSight s = .next t ∧
      (t.lane l).voidTally = (s.lane l).voidTally ∧
      PushedIfAny s t (sightFinding s ctx l tag rssi position arrival) ∧
      (Forms s ctx tag → t.pool.freeSlots + 1 = s.pool.freeSlots) ∧
      (¬ Forms s ctx tag → t.pool.freeSlots = s.pool.freeSlots) ∧
      (∀ d, d ≠ c → t.context d = s.context d) ∧
      (gap = false → (∀ timer, (s.lane l).mode = .inSegment g timer →
          (t.lane l).mode = .inSegment g (dwellAfter s.opts l timer)) ∧ t.store = s.store ∧ t.settle = s.settle ∧
        t.context c = some (sighted s ctx tag rssi position arrival)) ∧
      (gap = false → OtherLanes s t l) ∧
      (gap = true → (t.lane l).mode = .inVoid ∧
        (∀ h, h ≠ g → t.segment h = s.segment h) ∧ t.store = { s.store with segments := t.store.segments } ∧
        ((sighted s ctx tag rssi position arrival).observations = [] →
          t.context c = none ∧ t.settle = s.settle ∧
            t.segment g = (s.segment g).map (fun r => { r with phase := priorOf ctx.prior }) ∧
            ∀ m, m ≠ l → t.lane m = flagLane (s.lane m)) ∧
        ((sighted s ctx tag rssi position arrival).observations ≠ [] →
          t.context c = some { sighted s ctx tag rssi position arrival with phase := .closed l .markerLost } ∧
            t.segment g = (s.segment g).map (fun r => { r with phase := .settling c }) ∧
            t.settle.queue = s.settle.queue ++ [g] ∧
            t.settle.engine = (if s.settle.engine = .idle then .taking else s.settle.engine) ∧ OtherLanes s t l))

/-- A context is closed by a LEAVE drained for its lane, which is then IDLE (R37); by its dwell timer, expired, and by
CLOSE_SEGMENT, which leave the lane IN_VOID (R40, R41, R80); a timer that is not due changes nothing (log entry 2). A LEAVE drained for a lane that owns no context makes it
IDLE and changes nothing else but what its drain does: in IDLE it is ignored (R37).
CLOSE_SEGMENT is refused for a segment above 2,047 and for one not COUNTING; its reply carries the context, its
observations and TRUNCATED, and the segment's state after the close. -/
def Obligations.ClosesEndTheCountOfALane : Prop :=
  (∀ (s : State) (l : Fin 8) (gap : Bool) (rest : List Entry), Drains s l { kind := .leave, gap := gap } rest →
    (NotCounting s l → ∃ t, exec .drainLeave s = .next t ∧ (t.lane l).mode = .idle ∧
      (t.lane l).voidTally = (s.lane l).voidTally ∧ CountsStay s t ∧ t.findq = s.findq ∧ OtherLanes s t l) ∧
    ∀ g c ctx, CountsIn s l g c ctx → ∃ t, exec .drainLeave s = .next t ∧ (t.lane l).mode = .idle ∧
      (t.lane l).voidTally = (s.lane l).voidTally ∧ Closes s t c ctx l .leave ∧ t.findq = s.findq) ∧
  (∀ (s : State) (l : Fin 8), (∀ g, (s.lane l).mode ≠ .inSegment g (some 0)) →
    exec (.dwellTimeout l) s = .next s) ∧
  (∀ (s : State) (l : Fin 8) (g : Nat) (c : Fin 16) (ctx : Context), (s.lane l).mode = .inSegment g (some 0) →
    CountsIn s l g c ctx → ∃ t, exec (.dwellTimeout l) s = .next t ∧
      t.lane l = { s.lane l with mode := .inVoid } ∧ Closes s t c ctx l .dwellTimeout ∧
      t.lanes.next = s.lanes.next ∧
      t = { s with lanes := t.lanes, store := t.store, pool := t.pool, settle := t.settle }) ∧
  ∀ (s : State) (before after : List Slot) (sl : Slot) (g : Nat), Waiting s before sl after (.closeSegment g) →
    (2048 ≤ g → ∃ t, exec .closeSegment s = .next t ∧ AnswersOnly s t before sl after 0x0C .badArgument none .none) ∧
    (g < 2048 → (∀ c, ¬ countsIn s g c) →
      ∃ t, exec .closeSegment s = .next t ∧ AnswersOnly s t before sl after 0x0C .wrongState none .none) ∧
    ∀ c ctx l, g < 2048 → CountsIn s l g c ctx → ∃ t, exec .closeSegment s = .next t ∧
      Answers s t before sl after 0x0C .ok none
        (.closed c ctx.observations.length ctx.truncated (segmentCode (t.segment g))) ∧
      t.lane l = { s.lane l with mode := .inVoid } ∧ Closes s t c ctx l .request ∧ t.lanes.next = s.lanes.next ∧
      t = { s with requests := t.requests, lanes := t.lanes, store := t.store, pool := t.pool, settle := t.settle }

/-- A tick advances the Campaign Clock by 1 modulo 2^32 and lowers the ticks to expiry of every running dwell timer by 1,
and changes nothing else (R39, R180). That a timer lowered to 0 stands there, with its expiry due and the lane
IN_SEGMENT, until the expiry is taken is the model's reading (log entry 18); while the part is held in reset no tick
counts, which is the model's reading of the clock standing at 0 (log entry 22). -/
def Obligations.TicksAdvanceTheClockAndTheDwellTimers : Prop :=
  ∀ s : State,
    ((s.resetPin = true ∨ ∃ sl ∈ s.requests.slots, sl.state = .inService .reset) →
      exec .campaignClockTick s = .next s) ∧
    (s.resetPin = false → (∀ sl ∈ s.requests.slots, sl.state ≠ .inService .reset) →
      ∃ t, exec .campaignClockTick s = .next t ∧ t.clock = { s.clock with value := s.clock.value + 1 } ∧
        (∀ l g n, (s.lane l).mode = .inSegment g (some n) →
          t.lane l = { s.lane l with mode := .inSegment g (some (n - 1)) }) ∧
        (∀ l, (∀ g n, (s.lane l).mode ≠ .inSegment g (some n)) → t.lane l = s.lane l) ∧
        t.lanes.next = s.lanes.next ∧ t = { s with clock := t.clock, lanes := t.lanes })

/-! ### Circulation events -/

/-- One event of a CIRC frame: ignored when its kind, status or tag cannot be used (R127); deferred when its item is held
or an event of its tag waits (R129, R133), and dropped with its finding at a full queue (R134); else applied: status and
status time, ACCOUNTED for a MISSING or UNVERIFIED item with a REVISED finding (R128, R130, R131). Each way raises its own
tally (R140). -/
def Obligations.CirculationEventsTakeOneOfFourWays : Prop :=
  ∀ (s : State) (w : WireEvent), Receives s .trunk →
    ((eventStatus w = none ∨ ∀ i, s.lookup w.tag = some i → s.item i = none) →
      exec (.circ [w]) s = .next { s with circ := { s.circ with ignored := raised s.circ.ignored 1 } }) ∧
    ∀ status i it, eventStatus w = some status → s.lookup w.tag = some i → s.item i = some it →
      ((it.hold = true ∨ ∃ e ∈ s.circ.deferred, e.tag = w.tag) →
        ∃ t k, exec (.circ [w]) s = .next t ∧ eventCode k = w.kind ∧
          (s.circ.deferred.length < 32 →
            t.circ = { s.circ with
              deferred := s.circ.deferred ++ [{ kind := k, tag := w.tag, arrival := s.clock.value,
                                                status := if w.kind = 4 then some status else none }],
              deferredTally := raised s.circ.deferredTally 1 } ∧
            t = { s with circ := t.circ, notices := t.notices }) ∧
          (32 ≤ s.circ.deferred.length →
            t.circ = { s.circ with dropped := raised s.circ.dropped 1 } ∧
            Pushed s t { kind := .circDropped, time := s.clock.value, segment := some it.home, tag := some w.tag,
                         item := some i, event := some k } ∧
            t = { s with circ := t.circ, findq := t.findq, notices := t.notices })) ∧
      (it.hold = false → (∀ e ∈ s.circ.deferred, e.tag ≠ w.tag) →
        ∃ t it', exec (.circ [w]) s = .next t ∧ t.item i = some it' ∧ AppliedTo it it' status s.clock.value ∧
          (∀ j, j ≠ i → t.item j = s.item j) ∧ t.circ = { s.circ with applied := raised s.circ.applied 1 } ∧
          (Explained it.result →
            Pushed s t { kind := .revised, time := s.clock.value, segment := some it.home,
                         count := it.stamp.map (·.count), item := some i, tag := some it.tag, rank := some it.rank,
                         oldResult := some it.result, newResult := some .accounted }) ∧
          (¬ Explained it.result → t.findq = s.findq) ∧
          t.store = { s.store with items := t.store.items } ∧
          t = { s with store := t.store, circ := t.circ, findq := t.findq, notices := t.notices })

/-- A CIRC frame of several events is taken one at a time, in frame order, all with one arrival time (R126). The scan of
the Deferred Queue (R135) applies its events oldest first: each item takes the status and arrival time of the last event
that names it, an event whose tag names no item is counted as ignored, a REVISED is pushed, in the order of the queue, for
the first event of each item that stood MISSING or UNVERIFIED (R130, R131), the queue is left empty, and the engine takes the
next segment or is IDLE (R122). -/
def Obligations.EventsAreTakenInOrder : Prop :=
  (∀ (s : State) (w : WireEvent) (rest : List WireEvent), Receives s .trunk → 1 ≤ rest.length → rest.length ≤ 7 →
    ∃ t, exec (.circ [w]) s = .next t ∧ exec (.circ (w :: rest)) s = exec (.circ rest) t ∧
      t.clock = s.clock ∧ Receives t .trunk) ∧
  ∀ s : State, s.settle.engine = .scanning → TalliesOk s →
    ∃ t, exec .deferredScan s = .next t ∧ t.circ.deferred = [] ∧ t.settle.queue = s.settle.queue ∧
      t.settle.engine = (if s.settle.queue = [] then .idle else .taking) ∧
      (∀ i, s.item i = none → t.item i = none) ∧
      (∀ i it, s.item i = some it →
        (∀ e ∈ s.circ.deferred, s.lookup e.tag ≠ some i) → t.item i = some it) ∧
      (∀ i it older e newer, s.item i = some it → s.circ.deferred = older ++ e :: newer → s.lookup e.tag = some i →
        (∀ f ∈ newer, s.lookup f.tag ≠ some i) →
        ∃ it', t.item i = some it' ∧ AppliedTo it it' (statusOf e) e.arrival) ∧
      (let named := s.circ.deferred.countP fun e => ((s.lookup e.tag).bind s.item).isSome
       t.circ.applied = raised s.circ.applied named ∧
        t.circ.ignored = raised s.circ.ignored (s.circ.deferred.length - named)) ∧
      PushedAll s t (scanFindings s) ∧
      t.circ.deferredTally = s.circ.deferredTally ∧ t.circ.dropped = s.circ.dropped ∧
      t.store = { s.store with items := t.store.items } ∧
      t = { s with store := t.store, settle := t.settle, circ := t.circ, findq := t.findq, notices := t.notices }

/-! ### Settles -/

/-- The freeze: the head segment leaves the Settle Queue and is in settle, XREAD and REVISE are captured, and the items
observed, at home or located there are held; nothing else changes (R19, R103). -/
def Obligations.FreezeHoldsTheItemsOfTheSettle : Prop :=
  ∀ (s : State) (g : Nat) (rest : List Nat) (r : Segment) (c : Fin 16) (ctx : Context),
    s.settle.engine = .taking → s.settle.queue = g :: rest → s.segment g = some r → r.phase = .settling c →
    s.context c = some ctx →
    ∃ t, exec .settleFreeze s = .next t ∧
      t.settle = { queue := rest,
                   engine := .settling { segment := g, xread := s.opts.xread, revise := s.opts.revise,
                                         stage := .estimates, tallies := {}, kept := none } } ∧
      (∀ i, s.item i = none → t.item i = none) ∧
      (∀ i it, s.item i = some it → ∃ hold : Bool, t.item i = some { it with hold := hold } ∧
        (hold = true ↔ it.hold = true ∨ (∃ o ∈ ctx.observations, o.item = some i) ∨ it.home = g ∨
          ∃ p, it.placed = some p ∧ p.segment = g)) ∧
      t.store = { s.store with items := t.store.items } ∧ t = { s with store := t.store, settle := t.settle }

/-- The estimates stage gives every observation, in list order, its estimate from W and P (R97, R104); the resolution
stage rules on every observation by the cases of R105 and counts the cross-reads (R106 to R108). Neither writes a record
or pushes a finding. -/
def Obligations.ResolutionRulesEveryObservation : Prop :=
  ∀ (s : State) (w : Settle) (r : Segment) (c : Fin 16) (ctx : Context), Settles s w r c ctx →
    (w.stage = .estimates → exec .settleEstimates s = .next { s with settle := { s.settle with
      engine := .settling { w with
        stage := .resolution (ctx.observations.map fun o => positionEstimate o.w o.p) } } }) ∧
    ∀ es, w.stage = .resolution es → es.length = ctx.observations.length →
      ∃ rs, exec .settleResolution s = .next { s with settle := { s.settle with
          engine := .settling { w with
            stage := .orderChain rs
            tallies := { w.tallies with crossReads := rs.countP fun x => decide (x.verdict = .crossRead) } } } } ∧
        rs.length = ctx.observations.length ∧
        ∀ (k : Nat) (o : Observation) (e : Option Nat) (x : Ruling), ctx.observations[k]? = some o → es[k]? = some e →
          rs[k]? = some x → x.observation = o ∧ x.estimate = e ∧ Ruled s w r.twin o e x.verdict

/-- The order chain stage sorts the candidates, each observation ruled one with its estimate and the rank of its item, into
shelf order and rules each IN_PLACE if the order chain holds it, else
OUT_OF_ORDER with its should-follow item; every other ruling stands, and no record changes (R109 to R111). -/
def Obligations.OrderChainRulesTheCandidates : Prop :=
  ∀ (s : State) (w : Settle) (r : Segment) (c : Fin 16) (ctx : Context) (rs : List Ruling),
    Settles s w r c ctx → w.stage = .orderChain rs → rs ≠ [] →
    ∃ rs' cs, exec .settleOrderChain s = .next { s with settle := { s.settle with
        engine := .settling { w with stage := .results rs' rs' } } } ∧
      cs.Perm (rs.filterMap (candidateOf s)) ∧
      (∀ k : Candidate, k ∈ cs ↔ ∃ x ∈ rs, ∃ m it, x.verdict = .placed k.item .candidate m ∧
        x.estimate = some k.estimate ∧ s.item k.item = some it ∧ it.rank = k.rank) ∧
      cs.Pairwise ShelfOrder ∧ rs'.length = rs.length ∧
      ∀ (k : Nat) (x x' : Ruling), rs[k]? = some x → rs'[k]? = some x' → ChainRules s (orderChain cs) x x'

/-- The results stage, for one observation: an unknown tag is reported and tallied, a cross-read changes nothing, and for a
placed item the record is written as R112 lays down before the finding of R113 or R114, if any, is pushed or kept by the
engine (R116). No other record changes (R115). -/
def Obligations.ResultsAreWrittenOneByOne : Prop :=
  ∀ (s : State) (w : Settle) (r : Segment) (c : Fin 16) (ctx : Context) (rs todo : List Ruling) (x : Ruling),
    TablesOk s → Settles s w r c ctx → w.stage = .results rs (x :: todo) →
    (x.verdict = .unknown →
      ∃ t stage, exec .settleResultWrite s = .next t ∧ StageAfter t w.segment rs todo stage ∧
        GoesOn s t { w with stage := stage, tallies := { w.tallies with unknown := w.tallies.unknown + 1 } }
          (some { kind := .unknownTag, time := 0, truncated := ctx.truncated, segment := some w.segment,
                  count := some (newCount r), tag := some x.observation.tag, estimate := x.estimate,
                  peak := some x.observation.peak }) ∧
        t = { s with settle := t.settle, findq := t.findq, notices := t.notices }) ∧
    (x.verdict = .crossRead →
      ∃ t stage, exec .settleResultWrite s = .next t ∧ StageAfter t w.segment rs todo stage ∧
        GoesOn s t { w with stage := stage } none ∧ t = { s with settle := t.settle }) ∧
    ∀ i place moved it, x.verdict = .placed i place moved → place ≠ .candidate → s.item i = some it →
      ∃ t stage tallies f, exec .settleResultWrite s = .next t ∧ StageAfter t w.segment rs todo stage ∧
        t.item i = some { it with result := resultOf place,
                                  placed := some { segment := w.segment, peak := x.observation.peak },
                                  estimate := x.estimate,
                                  stamp := some { count := newCount r, time := s.clock.value } } ∧
        (∀ j, j ≠ i → t.item j = s.item j) ∧ TalliedPlace w.tallies tallies place ∧
        ResultFinding w.segment (newCount r) ctx.truncated i it x place moved f ∧
        GoesOn s t { w with stage := stage, tallies := tallies } f ∧
        t.store = { s.store with items := t.store.items } ∧
        t = { s with store := t.store, settle := t.settle, findq := t.findq, notices := t.notices }

/-- The missing sweep, for one item. A home item located elsewhere is tallied and left (R118); any other home item is
MISSING, UNVERIFIED or ABSENT_EXPECTED, loses its placement, and takes the settle's stamp, with a finding in the first two
cases (R118). A stray not found again loses its placement, is judged so for a home counted before and UNCOUNTED otherwise,
and is reported as REVISED, in no tally (R119). -/
def Obligations.SweepJudgesItemsNotSeen : Prop :=
  ∀ (s : State) (w : Settle) (r : Segment) (c : Fin 16) (ctx : Context) (rs : List Ruling) (todo : List Nat) (i : Nat)
    (it : Item), Settles s w r c ctx → w.stage = .sweep rs (i :: todo) → s.item i = some it →
    let stage : Stage := if todo = [] then .summary rs else .sweep rs todo
    let stamp : ResultStamp := { count := newCount r, time := s.clock.value }
    let base (kind : FindingKind) : Finding :=
      { kind := kind, time := 0, truncated := ctx.truncated, segment := some w.segment, count := some (newCount r),
        item := some i, tag := some it.tag }
    (it.home = w.segment → (∃ p, it.placed = some p ∧ p.segment ≠ w.segment) →
      exec .settleSweepItem s = .next { s with settle := { s.settle with
        engine := .settling { w with
          stage := stage
          tallies := { w.tallies with locatedElsewhere := w.tallies.locatedElsewhere + 1 } } } }) ∧
    (it.home = w.segment → (∀ p, it.placed = some p → p.segment = w.segment) →
      let result := notSeen ctx.truncated it
      ∃ t, exec .settleSweepItem s = .next t ∧
        t.item i = some { it with result := result, placed := none, estimate := none, stamp := some stamp } ∧
        (∀ j, j ≠ i → t.item j = s.item j) ∧
        GoesOn s t { w with stage := stage, tallies := { w.tallies with
            missing := w.tallies.missing + (if result = .missing then 1 else 0),
            unverified := w.tallies.unverified + (if result = .unverified then 1 else 0),
            absentExpected := w.tallies.absentExpected + (if result = .absentExpected then 1 else 0) } }
          (if result = .missing then some { base .missing with rank := some it.rank }
           else if result = .unverified then some { base .unverified with rank := some it.rank } else none) ∧
        t.store = { s.store with items := t.store.items } ∧
        t = { s with store := t.store, settle := t.settle, findq := t.findq, notices := t.notices }) ∧
    (it.home ≠ w.segment →
      let counted := ((s.segment it.home).map Segment.countNumber).getD 0 ≠ 0
      ∃ t result, exec .settleSweepItem s = .next t ∧ (counted → result = notSeen ctx.truncated it) ∧
        (¬ counted → result = .uncounted) ∧
        t.item i = some { it with result := result, placed := none, estimate := none,
                                  stamp := if result = .uncounted then none else some stamp } ∧
        (∀ j, j ≠ i → t.item j = s.item j) ∧
        GoesOn s t { w with stage := stage }
          (some { base .revised with oldResult := some it.result, newResult := some result,
                                     reference := some w.segment }) ∧
        t.store = { s.store with items := t.store.items } ∧
        t = { s with store := t.store, settle := t.settle, findq := t.findq, notices := t.notices })

/-- The summary pushes SEGMENT_SETTLED with its tallies, or stalls with it (R120, R116); pushed, the cue is offered to the
Field-Out Queue if CUE_ENABLE is set and the closing lane is attached (R121). A STALLED engine resumes at FQ_RESUME or
below and pushes the kept finding at once (R116, R148): after a SEGMENT_SETTLED kept by the summary it goes on with the cue
and the release, and after any other finding at the stage that stands, the summary of which is then still to come. Above
FQ_RESUME nothing changes (log entry 2). -/
def Obligations.SummaryAndResumptionPushTheFinding : Prop :=
  ∀ (s : State) (w : Settle) (r : Segment) (c : Fin 16) (ctx : Context) (l : Fin 8) (cause : CloseCause),
    s.settle.engine = .settling w → s.segment w.segment = some r → r.phase = .settling c → s.context c = some ctx →
    ctx.phase = .closed l cause →
    (∀ rs, w.kept = none → w.stage = .summary rs →
      let tallies := { w.tallies with expected := r.itemCount }
      let f : Finding := { kind := .segmentSettled, time := 0, truncated := ctx.truncated, segment := some w.segment,
                           count := some (newCount r), lane := some l, cause := some cause, tallies := some tallies }
      ∃ t, exec .settleSummary s = .next t ∧
        (s.findq.records.length < 240 →
          GoesOn s t { w with stage := .release, tallies := tallies } (some f) ∧
          CueOffered s t l w.segment (newCount r) tallies rs) ∧
        (240 ≤ s.findq.records.length → GoesOn s t { w with tallies := tallies } (some f) ∧ t.field = s.field) ∧
        t = { s with settle := t.settle, findq := t.findq, field := t.field, notices := t.notices }) ∧
    (∀ f, w.kept = some f → s.opts.fqResume < s.findq.records.length → exec .settleResume s = .next s) ∧
    (∀ f, w.kept = some f → s.findq.records.length ≤ s.opts.fqResume →
      ∃ t, exec .settleResume s = .next t ∧
        t.findq = { s.findq with records := s.findq.records ++ [{ f with time := s.clock.value }] } ∧
        t.settle.queue = s.settle.queue ∧
        (∀ rs, f.kind = .segmentSettled → w.stage = .summary rs →
          t.settle.engine = .settling { w with stage := .release, kept := none } ∧
            CueOffered s t l w.segment (newCount r) w.tallies rs) ∧
        (f.kind ≠ .segmentSettled ∨ (∀ rs, w.stage ≠ .summary rs) →
          t.settle.engine = .settling { w with kept := none } ∧ t.field = s.field) ∧
        t = { s with settle := t.settle, findq := t.findq, field := t.field, notices := t.notices })

/-- The release, in one step: the segment is SETTLED with its count number, close cause and tallies, the context is FREE
and its slots free, every hold is clear, every WAITING lane's flag is set, and the Deferred Queue scan is next (R83, R122).
A QUERY_ITEM that waits on a hold keeps the record as the settle left it for its reply (R18; log entry 8). -/
def Obligations.ReleaseSettlesTheSegment : Prop :=
  ∀ (s : State) (w : Settle) (r : Segment) (c : Fin 16) (ctx : Context) (l : Fin 8) (cause : CloseCause),
    Settles s w r c ctx → w.stage = .release → ctx.phase = .closed l cause →
    ∃ t, exec .settleRelease s = .next t ∧
      t.segment w.segment = some { r with phase := .settled, countNumber := newCount r,
                                          last := some (cause, w.tallies) } ∧
      (∀ h, h ≠ w.segment → t.segment h = s.segment h) ∧ t.context c = none ∧
      (∀ d, d ≠ c → t.context d = s.context d) ∧
      t.pool.freeSlots = s.pool.freeSlots + ctx.observations.length ∧
      (∀ i, t.item i = (s.item i).map fun it => { it with hold := false }) ∧
      (∀ m, t.lane m = flagLane (s.lane m)) ∧ t.lanes.next = s.lanes.next ∧
      t.settle = { s.settle with engine := .scanning } ∧
      (∀ before sl after req i it, InWork s before sl after req (.holdWait i) → s.item i = some it →
        Begins s t before sl after (.holdCleared i { it with hold := false })) ∧
      ((∀ before sl after req i, ¬ InWork s before sl after req (.holdWait i)) → t.requests = s.requests) ∧
      t.store = { s.store with segments := t.store.segments, items := t.store.items } ∧
      t = { s with store := t.store, pool := t.pool, lanes := t.lanes, settle := t.settle, requests := t.requests,
                   notices := t.notices }

/-! ### The ports -/

/-- What a port reads from the bytes between two delimiters is a well-formed command, and the bytes are that command's frame
at that port, class, length, payload and CRC (R158 to R161): any other bytes fail a check. A received frame that fails a
check is discarded and counted by its own port alone, once (R160, R161); bytes that pass every check are no discard. A
command whose fields fail the checks of R161 stands for such a frame (log entry 15). A LANE_MSG joins the Field-Out Queue
unchanged below 16 frames, and else is counted there as dropped (R167, R169). That bytes which pass change nothing, and
that nothing is received or counted while the link is DOWN or the part is held in reset (R162, R170), is the model's
reading (log entries 2 and 17). -/
def Obligations.FramesAreCheckedOrForwarded : Prop :=
  (∀ (p : Port) (bs : List Byte) (i : Instr), receive p bs = some i →
    i.wellFormed = true ∧ arrivalFrame i = some (p, bs)) ∧
  (∀ (s : State) (p : Port) (what : Received), Receives s p →
    ((what = .interrupted ∨ ∃ bs, what = .bytes bs ∧ receive p bs = none) →
      exec (.frameDiscard p what) s = .next (match p with
        | .field => { s with field := { s.field with discards := raised s.field.discards 1 } }
        | .trunk => { s with trunk := { s.trunk with discards := raised s.trunk.discards 1 } })) ∧
    (∀ bs i, what = .bytes bs → receive p bs = some i → exec (.frameDiscard p what) s = .next s)) ∧
  (∀ (s : State) (lane rel : Nat) (i : Instr), Receives s .field →
    (8 ≤ lane ∧ (i = .laneUp lane ∨ i = .laneDown lane ∨ i = .leaveFrame lane) ∨
      (8 ≤ lane ∨ 2047 < rel) ∧ i = .enterFrame lane rel) →
    exec i s = .next { s with field := { s.field with discards := raised s.field.discards 1 } }) ∧
  (∀ (s : State) (lane : Nat) (frame : List WireSighting), Receives s .field →
    (8 ≤ lane ∨ frame = [] ∨ 8 < frame.length ∨ ∃ w ∈ frame, w.positioned = true ∧ 4095 < w.position) →
    exec (.sightFrame lane frame) s = .next { s with field := { s.field with
      discards := raised s.field.discards 1 } }) ∧
  (∀ (s : State) (i : Instr), Receives s .trunk →
    ((∃ events, (events = [] ∨ 8 < events.length) ∧ i = .circ events) ∨
      ∃ tag g offset records, (records = [] ∨ 16 < records.length) ∧ i = .request tag (.loadItems g offset records)) →
    exec i s = .next { s with trunk := { s.trunk with discards := raised s.trunk.discards 1 } }) ∧
  (∀ (s : State) (i : Instr) (p : Port), ¬ Receives s p →
    (p = .field ∧ ((∃ lane, i = .laneUp lane ∨ i = .laneDown lane ∨ i = .leaveFrame lane) ∨
        (∃ lane rel, i = .enterFrame lane rel) ∨ ∃ lane frame, i = .sightFrame lane frame) ∨
      p = .trunk ∧ ((∃ tag req, i = .request tag req) ∨ (∃ events, i = .circ events) ∨
        ∃ lane body, i = .laneMsg lane body) ∨
      ∃ what, i = .frameDiscard p what) →
    exec i s = .next s) ∧
  ∀ (s : State) (lane : Nat) (body : List Byte), body.length ≤ 239 →
    (Receives s .trunk → lane < 8 →
      (s.field.out.length < 16 →
        exec (.laneMsg lane body) s = .next { s with field := { s.field with
          out := s.field.out ++ [.laneMsg lane body] } }) ∧
      (16 ≤ s.field.out.length →
        exec (.laneMsg lane body) s = .next { s with field := { s.field with
          outDrops := raised s.field.outDrops 1 } })) ∧
    (Receives s .trunk → 8 ≤ lane →
      exec (.laneMsg lane body) s = .next { s with trunk := { s.trunk with discards := raised s.trunk.discards 1 } })

/-- The upstream arbiter selects in strict priority: the oldest ready reply, whose slot is SENDING; else the waiting
NOTICE, with the conditions and latches as they stand; else the head finding, which stays in the queue (R164, R165, R149).
Sent in full, a reply frees its slot, a NOTICE leaves no trace, and a finding leaves the queue, which clears FINDQ_LOST
when it is empty; a STALLED engine's resumption is then evaluated, in the same step by the model's reading (log entry 6;
R116, R149, R152, R171). With nothing to select nothing changes (log entry 2). The bytes of every frame sent on the Trunk
Link are those of 9.7.3, 9.7.5 and 9.7.6, framed and checked by R158 and R159; where those leave a width or an order open the
layout is the model's (log entries 11, 12, 14, 30, 31, 32). -/
def Obligations.TheTrunkPortSendsByPriority : Prop :=
  TrunkLayouts ∧
  (∀ s : State, ¬ Receives s .trunk ∨ s.trunk.tx ≠ none → exec .upstreamSelect s = .next s) ∧
  (∀ s : State, Receives s .trunk → s.trunk.tx = none →
    (∀ before sl after rep, s.requests.slots = before ++ sl :: after → sl.state = .replyReady rep →
      (∀ x ∈ before, ∀ q, x.state ≠ .replyReady q) →
      exec .upstreamSelect s = .next { s with
        requests := { s.requests with slots := before ++ { sl with state := .sending rep } :: after },
        trunk := { s.trunk with tx := some { what := .reply, frame := replyFrame rep } } }) ∧
    ((∀ x ∈ s.requests.slots, ∀ q, x.state ≠ .replyReady q) →
      (s.notices.waiting = true →
        exec .upstreamSelect s = .next { s with
          notices := { s.notices with waiting := false },
          trunk := { s.trunk with tx := some {
            what := .notice (liveConditions s) s.notices.latches
            frame := noticeFrame (liveConditions s) s.notices.latches } } }) ∧
      (∀ f rest, s.notices.waiting = false → s.findq.records = f :: rest →
        exec .upstreamSelect s = .next { s with
          trunk := { s.trunk with tx := some { what := .finding, frame := findingFrame f } } }) ∧
      (s.notices.waiting = false → s.findq.records = [] → exec .upstreamSelect s = .next s))) ∧
  (∀ (s : State) (frame : List Byte) (before after : List Slot) (sl : Slot) (rep : Reply),
    s.trunk.tx = some { what := .reply, frame := frame } → s.requests.slots = before ++ sl :: after →
    sl.state = .sending rep → (∀ x ∈ before ++ after, ∀ q, x.state ≠ .sending q) →
    exec .replySent s = .next { s with requests := { s.requests with slots := before ++ after },
                                       trunk := { s.trunk with tx := none } }) ∧
  (∀ (s : State) (frame : List Byte) (conditions latches : Conditions),
    s.trunk.tx = some { what := .notice conditions latches, frame := frame } →
    exec .noticeSent s = .next { s with trunk := { s.trunk with tx := none } }) ∧
  ∀ (s : State) (frame : List Byte), s.trunk.tx = some { what := .finding, frame := frame } →
    ∃ u, u.findq = { s.findq with records := s.findq.records.drop 1,
                                  lost := s.findq.lost && decide (1 < s.findq.records.length) } ∧
      u = { s with findq := u.findq, trunk := { s.trunk with tx := none }, notices := u.notices } ∧
      exec .findingSent s = exec .settleResume u ∧
      ((∀ w f, s.settle.engine = .settling w → w.kept ≠ some f) → exec .findingSent s = .next u)

/-- The Field Port's transmitter selects a pending control signal first, round-robin from the control pointer, which moves
past its lane, and else the head of the Field-Out Queue, which stays until it has been sent in full (R167, R168). With
nothing to select nothing changes (log entry 2). The bytes of every frame sent on the Field Link are those of 9.7.2, framed
and checked by R158 and R159. -/
def Obligations.TheFieldPortSendsSignalsFirst : Prop :=
  FieldLayouts ∧
  (∀ s : State, ¬ Receives s .field ∨ s.field.tx ≠ none → exec .fieldSelect s = .next s) ∧
  (∀ s : State, Receives s .field → s.field.tx = none →
    (∀ (l : Fin 8) (sig : Signal), s.field.signals[l.val] = some sig →
      (∀ k : Fin 8, k < l - s.field.controlPtr → s.field.signals[(s.field.controlPtr + k).val] = none) →
      exec .fieldSelect s = .next { s with field := { s.field with
        signals := s.field.signals.set l.val none l.isLt, controlPtr := l + 1,
        tx := some { what := .signal l sig, frame := signalFrame l sig } } }) ∧
    ((∀ l : Fin 8, s.field.signals[l.val] = none) →
      (∀ f rest, s.field.out = f :: rest →
        exec .fieldSelect s = .next { s with field := { s.field with
          tx := some { what := .queued, frame := outFrameBytes f } } }) ∧
      (s.field.out = [] → exec .fieldSelect s = .next s))) ∧
  (∀ (s : State) (frame : List Byte) (l : Fin 8) (sig : Signal),
    s.field.tx = some { what := .signal l sig, frame := frame } →
    exec .controlSignalSent s = .next { s with field := { s.field with tx := none } }) ∧
  ∀ (s : State) (frame : List Byte), s.field.tx = some { what := .queued, frame := frame } →
    exec .fieldOutFrameSent s = .next { s with field := { s.field with out := s.field.out.drop 1, tx := none } }

/-- A link going UP or DOWN (R162, R163). A frame being received is discarded and counted, one being sent is cut: a cut
reply is ready again, a cut NOTICE waits again, a finding stays at the head. The Field Link going DOWN detaches every lane
in increasing lane number, with the close of each lane's context (R26, R78, R79, R82). While the
part is held in reset only the receiver's signal changes (R170). That a control signal being sent is lost with the frame is
the model's reading (log entry 19), and so is it that a finding, or a frame of the Field-Out Queue, stays which a count
restart has kept for its sending alone (log entry 33). -/
def Obligations.LinksGoUpAndDown : Prop :=
  (∀ s : State, (s.resetPin = true ∨ ∃ sl ∈ s.requests.slots, sl.state = .inService .reset) →
    (∀ b, exec (.linkDown .field b) s = .next { s with field := { s.field with signal := false } } ∧
      exec (.linkDown .trunk b) s = .next { s with trunk := { s.trunk with signal := false } }) ∧
    exec (.linkUp .field) s = .next { s with field := { s.field with signal := true } } ∧
    exec (.linkUp .trunk) s = .next { s with trunk := { s.trunk with signal := true } }) ∧
  ∀ s : State, s.resetPin = false → (∀ sl ∈ s.requests.slots, sl.state ≠ .inService .reset) →
    exec (.linkUp .field) s = .next { s with field := { s.field with signal := true, up := true } } ∧
    exec (.linkUp .trunk) s = .next { s with trunk := { s.trunk with signal := true, up := true } } ∧
    (∀ b, s.trunk.up = true → ∃ t, exec (.linkDown .trunk b) s = .next t ∧
      t.trunk = { signal := false, up := false, tx := none,
                  discards := if b then raised s.trunk.discards 1 else s.trunk.discards } ∧
      (∀ frame before sl after rep, s.trunk.tx = some { what := .reply, frame := frame } →
        s.requests.slots = before ++ sl :: after → sl.state = .sending rep →
        (∀ x ∈ before, ∀ q, x.state ≠ .sending q) →
        t.requests = { s.requests with slots := before ++ { sl with state := .replyReady rep } :: after } ∧
          t.notices = s.notices) ∧
      (∀ frame conditions latches, s.trunk.tx = some { what := .notice conditions latches, frame := frame } →
        t.notices = { s.notices with waiting := true } ∧ t.requests = s.requests) ∧
      ((s.trunk.tx = none ∨ ∃ frame, s.trunk.tx = some { what := .finding, frame := frame }) →
        t.notices = s.notices ∧ t.requests = s.requests) ∧
      t = { s with trunk := t.trunk, requests := t.requests, notices := t.notices }) ∧
    ∀ b, s.field.up = true → ClaimsOk s → ∃ t, exec (.linkDown .field b) s = .next t ∧
      t.field = { s.field with signal := false, up := false, tx := none, signals := t.field.signals,
                               discards := if b then raised s.field.discards 1 else s.field.discards } ∧
      Detaches { s with field := { s.field with signal := false, up := false, tx := none,
                                                discards := t.field.discards } } t (fun _ => true) ∧
      t = { s with field := t.field, lanes := t.lanes, store := t.store, pool := t.pool, settle := t.settle,
                   notices := t.notices }
end

