-- ==== Sys2Proof/Laws/State.lean ====
section
/-! SUPPORT. What each named update leaves as it was: one lemma per field, true by rfl. -/

namespace Sys2Proof.Machine

/-! ### setLane -/

@[simp] theorem State.setLane_field (s : State) (l : Fin 8) (r : Lane) : (s.setLane l r).field = s.field := rfl
@[simp] theorem State.setLane_trunk (s : State) (l : Fin 8) (r : Lane) : (s.setLane l r).trunk = s.trunk := rfl
@[simp] theorem State.setLane_store (s : State) (l : Fin 8) (r : Lane) : (s.setLane l r).store = s.store := rfl
@[simp] theorem State.setLane_pool (s : State) (l : Fin 8) (r : Lane) : (s.setLane l r).pool = s.pool := rfl
@[simp] theorem State.setLane_weights (s : State) (l : Fin 8) (r : Lane) : (s.setLane l r).weights = s.weights := rfl
@[simp] theorem State.setLane_settle (s : State) (l : Fin 8) (r : Lane) : (s.setLane l r).settle = s.settle := rfl
@[simp] theorem State.setLane_circ (s : State) (l : Fin 8) (r : Lane) : (s.setLane l r).circ = s.circ := rfl
@[simp] theorem State.setLane_findq (s : State) (l : Fin 8) (r : Lane) : (s.setLane l r).findq = s.findq := rfl
@[simp] theorem State.setLane_requests (s : State) (l : Fin 8) (r : Lane) : (s.setLane l r).requests = s.requests := rfl
@[simp] theorem State.setLane_opts (s : State) (l : Fin 8) (r : Lane) : (s.setLane l r).opts = s.opts := rfl
@[simp] theorem State.setLane_clock (s : State) (l : Fin 8) (r : Lane) : (s.setLane l r).clock = s.clock := rfl
@[simp] theorem State.setLane_notices (s : State) (l : Fin 8) (r : Lane) : (s.setLane l r).notices = s.notices := rfl
@[simp] theorem State.setLane_resetPin (s : State) (l : Fin 8) (r : Lane) : (s.setLane l r).resetPin = s.resetPin := rfl
@[simp] theorem State.setLane_pending (s : State) (l : Fin 8) (r : Lane) : (s.setLane l r).pending = s.pending := rfl

/-! ### setSegment -/

@[simp] theorem State.setSegment_field (s : State) (g : Nat) (r : Segment) : (s.setSegment g r).field = s.field := rfl
@[simp] theorem State.setSegment_trunk (s : State) (g : Nat) (r : Segment) : (s.setSegment g r).trunk = s.trunk := rfl
@[simp] theorem State.setSegment_lanes (s : State) (g : Nat) (r : Segment) : (s.setSegment g r).lanes = s.lanes := rfl
@[simp] theorem State.setSegment_pool (s : State) (g : Nat) (r : Segment) : (s.setSegment g r).pool = s.pool := rfl
@[simp] theorem State.setSegment_weights (s : State) (g : Nat) (r : Segment) : (s.setSegment g r).weights = s.weights := rfl
@[simp] theorem State.setSegment_settle (s : State) (g : Nat) (r : Segment) : (s.setSegment g r).settle = s.settle := rfl
@[simp] theorem State.setSegment_circ (s : State) (g : Nat) (r : Segment) : (s.setSegment g r).circ = s.circ := rfl
@[simp] theorem State.setSegment_findq (s : State) (g : Nat) (r : Segment) : (s.setSegment g r).findq = s.findq := rfl
@[simp] theorem State.setSegment_requests (s : State) (g : Nat) (r : Segment) : (s.setSegment g r).requests = s.requests := rfl
@[simp] theorem State.setSegment_opts (s : State) (g : Nat) (r : Segment) : (s.setSegment g r).opts = s.opts := rfl
@[simp] theorem State.setSegment_clock (s : State) (g : Nat) (r : Segment) : (s.setSegment g r).clock = s.clock := rfl
@[simp] theorem State.setSegment_notices (s : State) (g : Nat) (r : Segment) : (s.setSegment g r).notices = s.notices := rfl
@[simp] theorem State.setSegment_resetPin (s : State) (g : Nat) (r : Segment) : (s.setSegment g r).resetPin = s.resetPin := rfl
@[simp] theorem State.setSegment_pending (s : State) (g : Nat) (r : Segment) : (s.setSegment g r).pending = s.pending := rfl

/-! ### setPhase -/

@[simp] theorem State.setPhase_field (s : State) (g : Nat) (p : Phase) : (s.setPhase g p).field = s.field := by unfold State.setPhase; split <;> rfl
@[simp] theorem State.setPhase_trunk (s : State) (g : Nat) (p : Phase) : (s.setPhase g p).trunk = s.trunk := by unfold State.setPhase; split <;> rfl
@[simp] theorem State.setPhase_lanes (s : State) (g : Nat) (p : Phase) : (s.setPhase g p).lanes = s.lanes := by unfold State.setPhase; split <;> rfl
@[simp] theorem State.setPhase_pool (s : State) (g : Nat) (p : Phase) : (s.setPhase g p).pool = s.pool := by unfold State.setPhase; split <;> rfl
@[simp] theorem State.setPhase_weights (s : State) (g : Nat) (p : Phase) : (s.setPhase g p).weights = s.weights := by unfold State.setPhase; split <;> rfl
@[simp] theorem State.setPhase_settle (s : State) (g : Nat) (p : Phase) : (s.setPhase g p).settle = s.settle := by unfold State.setPhase; split <;> rfl
@[simp] theorem State.setPhase_circ (s : State) (g : Nat) (p : Phase) : (s.setPhase g p).circ = s.circ := by unfold State.setPhase; split <;> rfl
@[simp] theorem State.setPhase_findq (s : State) (g : Nat) (p : Phase) : (s.setPhase g p).findq = s.findq := by unfold State.setPhase; split <;> rfl
@[simp] theorem State.setPhase_requests (s : State) (g : Nat) (p : Phase) : (s.setPhase g p).requests = s.requests := by unfold State.setPhase; split <;> rfl
@[simp] theorem State.setPhase_opts (s : State) (g : Nat) (p : Phase) : (s.setPhase g p).opts = s.opts := by unfold State.setPhase; split <;> rfl
@[simp] theorem State.setPhase_clock (s : State) (g : Nat) (p : Phase) : (s.setPhase g p).clock = s.clock := by unfold State.setPhase; split <;> rfl
@[simp] theorem State.setPhase_notices (s : State) (g : Nat) (p : Phase) : (s.setPhase g p).notices = s.notices := by unfold State.setPhase; split <;> rfl
@[simp] theorem State.setPhase_resetPin (s : State) (g : Nat) (p : Phase) : (s.setPhase g p).resetPin = s.resetPin := by unfold State.setPhase; split <;> rfl
@[simp] theorem State.setPhase_pending (s : State) (g : Nat) (p : Phase) : (s.setPhase g p).pending = s.pending := by unfold State.setPhase; split <;> rfl

/-! ### setItem -/

@[simp] theorem State.setItem_field (s : State) (i : Nat) (r : Item) : (s.setItem i r).field = s.field := rfl
@[simp] theorem State.setItem_trunk (s : State) (i : Nat) (r : Item) : (s.setItem i r).trunk = s.trunk := rfl
@[simp] theorem State.setItem_lanes (s : State) (i : Nat) (r : Item) : (s.setItem i r).lanes = s.lanes := rfl
@[simp] theorem State.setItem_pool (s : State) (i : Nat) (r : Item) : (s.setItem i r).pool = s.pool := rfl
@[simp] theorem State.setItem_weights (s : State) (i : Nat) (r : Item) : (s.setItem i r).weights = s.weights := rfl
@[simp] theorem State.setItem_settle (s : State) (i : Nat) (r : Item) : (s.setItem i r).settle = s.settle := rfl
@[simp] theorem State.setItem_circ (s : State) (i : Nat) (r : Item) : (s.setItem i r).circ = s.circ := rfl
@[simp] theorem State.setItem_findq (s : State) (i : Nat) (r : Item) : (s.setItem i r).findq = s.findq := rfl
@[simp] theorem State.setItem_requests (s : State) (i : Nat) (r : Item) : (s.setItem i r).requests = s.requests := rfl
@[simp] theorem State.setItem_opts (s : State) (i : Nat) (r : Item) : (s.setItem i r).opts = s.opts := rfl
@[simp] theorem State.setItem_clock (s : State) (i : Nat) (r : Item) : (s.setItem i r).clock = s.clock := rfl
@[simp] theorem State.setItem_notices (s : State) (i : Nat) (r : Item) : (s.setItem i r).notices = s.notices := rfl
@[simp] theorem State.setItem_resetPin (s : State) (i : Nat) (r : Item) : (s.setItem i r).resetPin = s.resetPin := rfl
@[simp] theorem State.setItem_pending (s : State) (i : Nat) (r : Item) : (s.setItem i r).pending = s.pending := rfl

/-! ### setContext -/

@[simp] theorem State.setContext_field (s : State) (c : Fin 16) (r : Option Context) : (s.setContext c r).field = s.field := rfl
@[simp] theorem State.setContext_trunk (s : State) (c : Fin 16) (r : Option Context) : (s.setContext c r).trunk = s.trunk := rfl
@[simp] theorem State.setContext_lanes (s : State) (c : Fin 16) (r : Option Context) : (s.setContext c r).lanes = s.lanes := rfl
@[simp] theorem State.setContext_store (s : State) (c : Fin 16) (r : Option Context) : (s.setContext c r).store = s.store := rfl
@[simp] theorem State.setContext_weights (s : State) (c : Fin 16) (r : Option Context) : (s.setContext c r).weights = s.weights := rfl
@[simp] theorem State.setContext_settle (s : State) (c : Fin 16) (r : Option Context) : (s.setContext c r).settle = s.settle := rfl
@[simp] theorem State.setContext_circ (s : State) (c : Fin 16) (r : Option Context) : (s.setContext c r).circ = s.circ := rfl
@[simp] theorem State.setContext_findq (s : State) (c : Fin 16) (r : Option Context) : (s.setContext c r).findq = s.findq := rfl
@[simp] theorem State.setContext_requests (s : State) (c : Fin 16) (r : Option Context) : (s.setContext c r).requests = s.requests := rfl
@[simp] theorem State.setContext_opts (s : State) (c : Fin 16) (r : Option Context) : (s.setContext c r).opts = s.opts := rfl
@[simp] theorem State.setContext_clock (s : State) (c : Fin 16) (r : Option Context) : (s.setContext c r).clock = s.clock := rfl
@[simp] theorem State.setContext_notices (s : State) (c : Fin 16) (r : Option Context) : (s.setContext c r).notices = s.notices := rfl
@[simp] theorem State.setContext_resetPin (s : State) (c : Fin 16) (r : Option Context) : (s.setContext c r).resetPin = s.resetPin := rfl
@[simp] theorem State.setContext_pending (s : State) (c : Fin 16) (r : Option Context) : (s.setContext c r).pending = s.pending := rfl

/-! ### setSettle -/

@[simp] theorem State.setSettle_field (s : State) (w : Settle) : (s.setSettle w).field = s.field := rfl
@[simp] theorem State.setSettle_trunk (s : State) (w : Settle) : (s.setSettle w).trunk = s.trunk := rfl
@[simp] theorem State.setSettle_lanes (s : State) (w : Settle) : (s.setSettle w).lanes = s.lanes := rfl
@[simp] theorem State.setSettle_store (s : State) (w : Settle) : (s.setSettle w).store = s.store := rfl
@[simp] theorem State.setSettle_pool (s : State) (w : Settle) : (s.setSettle w).pool = s.pool := rfl
@[simp] theorem State.setSettle_weights (s : State) (w : Settle) : (s.setSettle w).weights = s.weights := rfl
@[simp] theorem State.setSettle_circ (s : State) (w : Settle) : (s.setSettle w).circ = s.circ := rfl
@[simp] theorem State.setSettle_findq (s : State) (w : Settle) : (s.setSettle w).findq = s.findq := rfl
@[simp] theorem State.setSettle_requests (s : State) (w : Settle) : (s.setSettle w).requests = s.requests := rfl
@[simp] theorem State.setSettle_opts (s : State) (w : Settle) : (s.setSettle w).opts = s.opts := rfl
@[simp] theorem State.setSettle_clock (s : State) (w : Settle) : (s.setSettle w).clock = s.clock := rfl
@[simp] theorem State.setSettle_notices (s : State) (w : Settle) : (s.setSettle w).notices = s.notices := rfl
@[simp] theorem State.setSettle_resetPin (s : State) (w : Settle) : (s.setSettle w).resetPin = s.resetPin := rfl
@[simp] theorem State.setSettle_pending (s : State) (w : Settle) : (s.setSettle w).pending = s.pending := rfl

/-! ### setSlots -/

@[simp] theorem State.setSlots_field (s : State) (slots : List Slot) : (s.setSlots slots).field = s.field := rfl
@[simp] theorem State.setSlots_trunk (s : State) (slots : List Slot) : (s.setSlots slots).trunk = s.trunk := rfl
@[simp] theorem State.setSlots_lanes (s : State) (slots : List Slot) : (s.setSlots slots).lanes = s.lanes := rfl
@[simp] theorem State.setSlots_store (s : State) (slots : List Slot) : (s.setSlots slots).store = s.store := rfl
@[simp] theorem State.setSlots_pool (s : State) (slots : List Slot) : (s.setSlots slots).pool = s.pool := rfl
@[simp] theorem State.setSlots_weights (s : State) (slots : List Slot) : (s.setSlots slots).weights = s.weights := rfl
@[simp] theorem State.setSlots_settle (s : State) (slots : List Slot) : (s.setSlots slots).settle = s.settle := rfl
@[simp] theorem State.setSlots_circ (s : State) (slots : List Slot) : (s.setSlots slots).circ = s.circ := rfl
@[simp] theorem State.setSlots_findq (s : State) (slots : List Slot) : (s.setSlots slots).findq = s.findq := rfl
@[simp] theorem State.setSlots_opts (s : State) (slots : List Slot) : (s.setSlots slots).opts = s.opts := rfl
@[simp] theorem State.setSlots_clock (s : State) (slots : List Slot) : (s.setSlots slots).clock = s.clock := rfl
@[simp] theorem State.setSlots_notices (s : State) (slots : List Slot) : (s.setSlots slots).notices = s.notices := rfl
@[simp] theorem State.setSlots_resetPin (s : State) (slots : List Slot) : (s.setSlots slots).resetPin = s.resetPin := rfl
@[simp] theorem State.setSlots_pending (s : State) (slots : List Slot) : (s.setSlots slots).pending = s.pending := rfl

/-! ### setTrunkTx -/

@[simp] theorem State.setTrunkTx_field (s : State) (tx : Option TrunkTx) : (s.setTrunkTx tx).field = s.field := rfl
@[simp] theorem State.setTrunkTx_lanes (s : State) (tx : Option TrunkTx) : (s.setTrunkTx tx).lanes = s.lanes := rfl
@[simp] theorem State.setTrunkTx_store (s : State) (tx : Option TrunkTx) : (s.setTrunkTx tx).store = s.store := rfl
@[simp] theorem State.setTrunkTx_pool (s : State) (tx : Option TrunkTx) : (s.setTrunkTx tx).pool = s.pool := rfl
@[simp] theorem State.setTrunkTx_weights (s : State) (tx : Option TrunkTx) : (s.setTrunkTx tx).weights = s.weights := rfl
@[simp] theorem State.setTrunkTx_settle (s : State) (tx : Option TrunkTx) : (s.setTrunkTx tx).settle = s.settle := rfl
@[simp] theorem State.setTrunkTx_circ (s : State) (tx : Option TrunkTx) : (s.setTrunkTx tx).circ = s.circ := rfl
@[simp] theorem State.setTrunkTx_findq (s : State) (tx : Option TrunkTx) : (s.setTrunkTx tx).findq = s.findq := rfl
@[simp] theorem State.setTrunkTx_requests (s : State) (tx : Option TrunkTx) : (s.setTrunkTx tx).requests = s.requests := rfl
@[simp] theorem State.setTrunkTx_opts (s : State) (tx : Option TrunkTx) : (s.setTrunkTx tx).opts = s.opts := rfl
@[simp] theorem State.setTrunkTx_clock (s : State) (tx : Option TrunkTx) : (s.setTrunkTx tx).clock = s.clock := rfl
@[simp] theorem State.setTrunkTx_notices (s : State) (tx : Option TrunkTx) : (s.setTrunkTx tx).notices = s.notices := rfl
@[simp] theorem State.setTrunkTx_resetPin (s : State) (tx : Option TrunkTx) : (s.setTrunkTx tx).resetPin = s.resetPin := rfl
@[simp] theorem State.setTrunkTx_pending (s : State) (tx : Option TrunkTx) : (s.setTrunkTx tx).pending = s.pending := rfl

/-! ### setFieldTx -/

@[simp] theorem State.setFieldTx_trunk (s : State) (tx : Option FieldTx) : (s.setFieldTx tx).trunk = s.trunk := rfl
@[simp] theorem State.setFieldTx_lanes (s : State) (tx : Option FieldTx) : (s.setFieldTx tx).lanes = s.lanes := rfl
@[simp] theorem State.setFieldTx_store (s : State) (tx : Option FieldTx) : (s.setFieldTx tx).store = s.store := rfl
@[simp] theorem State.setFieldTx_pool (s : State) (tx : Option FieldTx) : (s.setFieldTx tx).pool = s.pool := rfl
@[simp] theorem State.setFieldTx_weights (s : State) (tx : Option FieldTx) : (s.setFieldTx tx).weights = s.weights := rfl
@[simp] theorem State.setFieldTx_settle (s : State) (tx : Option FieldTx) : (s.setFieldTx tx).settle = s.settle := rfl
@[simp] theorem State.setFieldTx_circ (s : State) (tx : Option FieldTx) : (s.setFieldTx tx).circ = s.circ := rfl
@[simp] theorem State.setFieldTx_findq (s : State) (tx : Option FieldTx) : (s.setFieldTx tx).findq = s.findq := rfl
@[simp] theorem State.setFieldTx_requests (s : State) (tx : Option FieldTx) : (s.setFieldTx tx).requests = s.requests := rfl
@[simp] theorem State.setFieldTx_opts (s : State) (tx : Option FieldTx) : (s.setFieldTx tx).opts = s.opts := rfl
@[simp] theorem State.setFieldTx_clock (s : State) (tx : Option FieldTx) : (s.setFieldTx tx).clock = s.clock := rfl
@[simp] theorem State.setFieldTx_notices (s : State) (tx : Option FieldTx) : (s.setFieldTx tx).notices = s.notices := rfl
@[simp] theorem State.setFieldTx_resetPin (s : State) (tx : Option FieldTx) : (s.setFieldTx tx).resetPin = s.resetPin := rfl
@[simp] theorem State.setFieldTx_pending (s : State) (tx : Option FieldTx) : (s.setFieldTx tx).pending = s.pending := rfl

/-! ### setPending -/

@[simp] theorem State.setPending_field (s : State) (cs : List Instr) : (s.setPending cs).field = s.field := rfl
@[simp] theorem State.setPending_trunk (s : State) (cs : List Instr) : (s.setPending cs).trunk = s.trunk := rfl
@[simp] theorem State.setPending_lanes (s : State) (cs : List Instr) : (s.setPending cs).lanes = s.lanes := rfl
@[simp] theorem State.setPending_store (s : State) (cs : List Instr) : (s.setPending cs).store = s.store := rfl
@[simp] theorem State.setPending_pool (s : State) (cs : List Instr) : (s.setPending cs).pool = s.pool := rfl
@[simp] theorem State.setPending_weights (s : State) (cs : List Instr) : (s.setPending cs).weights = s.weights := rfl
@[simp] theorem State.setPending_settle (s : State) (cs : List Instr) : (s.setPending cs).settle = s.settle := rfl
@[simp] theorem State.setPending_circ (s : State) (cs : List Instr) : (s.setPending cs).circ = s.circ := rfl
@[simp] theorem State.setPending_findq (s : State) (cs : List Instr) : (s.setPending cs).findq = s.findq := rfl
@[simp] theorem State.setPending_requests (s : State) (cs : List Instr) : (s.setPending cs).requests = s.requests := rfl
@[simp] theorem State.setPending_opts (s : State) (cs : List Instr) : (s.setPending cs).opts = s.opts := rfl
@[simp] theorem State.setPending_clock (s : State) (cs : List Instr) : (s.setPending cs).clock = s.clock := rfl
@[simp] theorem State.setPending_notices (s : State) (cs : List Instr) : (s.setPending cs).notices = s.notices := rfl
@[simp] theorem State.setPending_resetPin (s : State) (cs : List Instr) : (s.setPending cs).resetPin = s.resetPin := rfl

/-! ### handSignal -/

@[simp] theorem handSignal_trunk (s : State) (l : Fin 8) (x : Option Signal) : (handSignal s l x).trunk = s.trunk := rfl
@[simp] theorem handSignal_lanes (s : State) (l : Fin 8) (x : Option Signal) : (handSignal s l x).lanes = s.lanes := rfl
@[simp] theorem handSignal_store (s : State) (l : Fin 8) (x : Option Signal) : (handSignal s l x).store = s.store := rfl
@[simp] theorem handSignal_pool (s : State) (l : Fin 8) (x : Option Signal) : (handSignal s l x).pool = s.pool := rfl
@[simp] theorem handSignal_weights (s : State) (l : Fin 8) (x : Option Signal) : (handSignal s l x).weights = s.weights := rfl
@[simp] theorem handSignal_settle (s : State) (l : Fin 8) (x : Option Signal) : (handSignal s l x).settle = s.settle := rfl
@[simp] theorem handSignal_circ (s : State) (l : Fin 8) (x : Option Signal) : (handSignal s l x).circ = s.circ := rfl
@[simp] theorem handSignal_findq (s : State) (l : Fin 8) (x : Option Signal) : (handSignal s l x).findq = s.findq := rfl
@[simp] theorem handSignal_requests (s : State) (l : Fin 8) (x : Option Signal) : (handSignal s l x).requests = s.requests := rfl
@[simp] theorem handSignal_opts (s : State) (l : Fin 8) (x : Option Signal) : (handSignal s l x).opts = s.opts := rfl
@[simp] theorem handSignal_clock (s : State) (l : Fin 8) (x : Option Signal) : (handSignal s l x).clock = s.clock := rfl
@[simp] theorem handSignal_notices (s : State) (l : Fin 8) (x : Option Signal) : (handSignal s l x).notices = s.notices := rfl
@[simp] theorem handSignal_resetPin (s : State) (l : Fin 8) (x : Option Signal) : (handSignal s l x).resetPin = s.resetPin := rfl
@[simp] theorem handSignal_pending (s : State) (l : Fin 8) (x : Option Signal) : (handSignal s l x).pending = s.pending := rfl

/-! ### offerFieldOut -/

@[simp] theorem offerFieldOut_trunk (s : State) (f : OutFrame) : (offerFieldOut s f).trunk = s.trunk := by unfold offerFieldOut; split <;> rfl
@[simp] theorem offerFieldOut_lanes (s : State) (f : OutFrame) : (offerFieldOut s f).lanes = s.lanes := by unfold offerFieldOut; split <;> rfl
@[simp] theorem offerFieldOut_store (s : State) (f : OutFrame) : (offerFieldOut s f).store = s.store := by unfold offerFieldOut; split <;> rfl
@[simp] theorem offerFieldOut_pool (s : State) (f : OutFrame) : (offerFieldOut s f).pool = s.pool := by unfold offerFieldOut; split <;> rfl
@[simp] theorem offerFieldOut_weights (s : State) (f : OutFrame) : (offerFieldOut s f).weights = s.weights := by unfold offerFieldOut; split <;> rfl
@[simp] theorem offerFieldOut_settle (s : State) (f : OutFrame) : (offerFieldOut s f).settle = s.settle := by unfold offerFieldOut; split <;> rfl
@[simp] theorem offerFieldOut_circ (s : State) (f : OutFrame) : (offerFieldOut s f).circ = s.circ := by unfold offerFieldOut; split <;> rfl
@[simp] theorem offerFieldOut_findq (s : State) (f : OutFrame) : (offerFieldOut s f).findq = s.findq := by unfold offerFieldOut; split <;> rfl
@[simp] theorem offerFieldOut_requests (s : State) (f : OutFrame) : (offerFieldOut s f).requests = s.requests := by unfold offerFieldOut; split <;> rfl
@[simp] theorem offerFieldOut_opts (s : State) (f : OutFrame) : (offerFieldOut s f).opts = s.opts := by unfold offerFieldOut; split <;> rfl
@[simp] theorem offerFieldOut_clock (s : State) (f : OutFrame) : (offerFieldOut s f).clock = s.clock := by unfold offerFieldOut; split <;> rfl
@[simp] theorem offerFieldOut_notices (s : State) (f : OutFrame) : (offerFieldOut s f).notices = s.notices := by unfold offerFieldOut; split <;> rfl
@[simp] theorem offerFieldOut_resetPin (s : State) (f : OutFrame) : (offerFieldOut s f).resetPin = s.resetPin := by unfold offerFieldOut; split <;> rfl
@[simp] theorem offerFieldOut_pending (s : State) (f : OutFrame) : (offerFieldOut s f).pending = s.pending := by unfold offerFieldOut; split <;> rfl

/-! ### raiseDrop -/

@[simp] theorem raiseDrop_field (s : State) (l : Fin 8) (n : Nat) : (raiseDrop s l n).field = s.field := rfl
@[simp] theorem raiseDrop_trunk (s : State) (l : Fin 8) (n : Nat) : (raiseDrop s l n).trunk = s.trunk := rfl
@[simp] theorem raiseDrop_store (s : State) (l : Fin 8) (n : Nat) : (raiseDrop s l n).store = s.store := rfl
@[simp] theorem raiseDrop_pool (s : State) (l : Fin 8) (n : Nat) : (raiseDrop s l n).pool = s.pool := rfl
@[simp] theorem raiseDrop_weights (s : State) (l : Fin 8) (n : Nat) : (raiseDrop s l n).weights = s.weights := rfl
@[simp] theorem raiseDrop_settle (s : State) (l : Fin 8) (n : Nat) : (raiseDrop s l n).settle = s.settle := rfl
@[simp] theorem raiseDrop_circ (s : State) (l : Fin 8) (n : Nat) : (raiseDrop s l n).circ = s.circ := rfl
@[simp] theorem raiseDrop_findq (s : State) (l : Fin 8) (n : Nat) : (raiseDrop s l n).findq = s.findq := rfl
@[simp] theorem raiseDrop_requests (s : State) (l : Fin 8) (n : Nat) : (raiseDrop s l n).requests = s.requests := rfl
@[simp] theorem raiseDrop_opts (s : State) (l : Fin 8) (n : Nat) : (raiseDrop s l n).opts = s.opts := rfl
@[simp] theorem raiseDrop_clock (s : State) (l : Fin 8) (n : Nat) : (raiseDrop s l n).clock = s.clock := rfl
@[simp] theorem raiseDrop_notices (s : State) (l : Fin 8) (n : Nat) : (raiseDrop s l n).notices = s.notices := rfl
@[simp] theorem raiseDrop_resetPin (s : State) (l : Fin 8) (n : Nat) : (raiseDrop s l n).resetPin = s.resetPin := rfl
@[simp] theorem raiseDrop_pending (s : State) (l : Fin 8) (n : Nat) : (raiseDrop s l n).pending = s.pending := rfl

/-! ### flagWaiting -/

@[simp] theorem flagWaiting_field (s : State) : (flagWaiting s).field = s.field := rfl
@[simp] theorem flagWaiting_trunk (s : State) : (flagWaiting s).trunk = s.trunk := rfl
@[simp] theorem flagWaiting_store (s : State) : (flagWaiting s).store = s.store := rfl
@[simp] theorem flagWaiting_pool (s : State) : (flagWaiting s).pool = s.pool := rfl
@[simp] theorem flagWaiting_weights (s : State) : (flagWaiting s).weights = s.weights := rfl
@[simp] theorem flagWaiting_settle (s : State) : (flagWaiting s).settle = s.settle := rfl
@[simp] theorem flagWaiting_circ (s : State) : (flagWaiting s).circ = s.circ := rfl
@[simp] theorem flagWaiting_findq (s : State) : (flagWaiting s).findq = s.findq := rfl
@[simp] theorem flagWaiting_requests (s : State) : (flagWaiting s).requests = s.requests := rfl
@[simp] theorem flagWaiting_opts (s : State) : (flagWaiting s).opts = s.opts := rfl
@[simp] theorem flagWaiting_clock (s : State) : (flagWaiting s).clock = s.clock := rfl
@[simp] theorem flagWaiting_notices (s : State) : (flagWaiting s).notices = s.notices := rfl
@[simp] theorem flagWaiting_resetPin (s : State) : (flagWaiting s).resetPin = s.resetPin := rfl
@[simp] theorem flagWaiting_pending (s : State) : (flagWaiting s).pending = s.pending := rfl

/-! ### servedLane -/

@[simp] theorem servedLane_field (s : State) (l : Fin 8) : (servedLane s l).field = s.field := rfl
@[simp] theorem servedLane_trunk (s : State) (l : Fin 8) : (servedLane s l).trunk = s.trunk := rfl
@[simp] theorem servedLane_store (s : State) (l : Fin 8) : (servedLane s l).store = s.store := rfl
@[simp] theorem servedLane_pool (s : State) (l : Fin 8) : (servedLane s l).pool = s.pool := rfl
@[simp] theorem servedLane_weights (s : State) (l : Fin 8) : (servedLane s l).weights = s.weights := rfl
@[simp] theorem servedLane_settle (s : State) (l : Fin 8) : (servedLane s l).settle = s.settle := rfl
@[simp] theorem servedLane_circ (s : State) (l : Fin 8) : (servedLane s l).circ = s.circ := rfl
@[simp] theorem servedLane_findq (s : State) (l : Fin 8) : (servedLane s l).findq = s.findq := rfl
@[simp] theorem servedLane_requests (s : State) (l : Fin 8) : (servedLane s l).requests = s.requests := rfl
@[simp] theorem servedLane_opts (s : State) (l : Fin 8) : (servedLane s l).opts = s.opts := rfl
@[simp] theorem servedLane_clock (s : State) (l : Fin 8) : (servedLane s l).clock = s.clock := rfl
@[simp] theorem servedLane_notices (s : State) (l : Fin 8) : (servedLane s l).notices = s.notices := rfl
@[simp] theorem servedLane_resetPin (s : State) (l : Fin 8) : (servedLane s l).resetPin = s.resetPin := rfl
@[simp] theorem servedLane_pending (s : State) (l : Fin 8) : (servedLane s l).pending = s.pending := rfl

/-! ### discardField -/

@[simp] theorem discardField_trunk (s : State) : (discardField s).trunk = s.trunk := rfl
@[simp] theorem discardField_lanes (s : State) : (discardField s).lanes = s.lanes := rfl
@[simp] theorem discardField_store (s : State) : (discardField s).store = s.store := rfl
@[simp] theorem discardField_pool (s : State) : (discardField s).pool = s.pool := rfl
@[simp] theorem discardField_weights (s : State) : (discardField s).weights = s.weights := rfl
@[simp] theorem discardField_settle (s : State) : (discardField s).settle = s.settle := rfl
@[simp] theorem discardField_circ (s : State) : (discardField s).circ = s.circ := rfl
@[simp] theorem discardField_findq (s : State) : (discardField s).findq = s.findq := rfl
@[simp] theorem discardField_requests (s : State) : (discardField s).requests = s.requests := rfl
@[simp] theorem discardField_opts (s : State) : (discardField s).opts = s.opts := rfl
@[simp] theorem discardField_clock (s : State) : (discardField s).clock = s.clock := rfl
@[simp] theorem discardField_notices (s : State) : (discardField s).notices = s.notices := rfl
@[simp] theorem discardField_resetPin (s : State) : (discardField s).resetPin = s.resetPin := rfl
@[simp] theorem discardField_pending (s : State) : (discardField s).pending = s.pending := rfl

/-! ### discardTrunk -/

@[simp] theorem discardTrunk_field (s : State) : (discardTrunk s).field = s.field := rfl
@[simp] theorem discardTrunk_lanes (s : State) : (discardTrunk s).lanes = s.lanes := rfl
@[simp] theorem discardTrunk_store (s : State) : (discardTrunk s).store = s.store := rfl
@[simp] theorem discardTrunk_pool (s : State) : (discardTrunk s).pool = s.pool := rfl
@[simp] theorem discardTrunk_weights (s : State) : (discardTrunk s).weights = s.weights := rfl
@[simp] theorem discardTrunk_settle (s : State) : (discardTrunk s).settle = s.settle := rfl
@[simp] theorem discardTrunk_circ (s : State) : (discardTrunk s).circ = s.circ := rfl
@[simp] theorem discardTrunk_findq (s : State) : (discardTrunk s).findq = s.findq := rfl
@[simp] theorem discardTrunk_requests (s : State) : (discardTrunk s).requests = s.requests := rfl
@[simp] theorem discardTrunk_opts (s : State) : (discardTrunk s).opts = s.opts := rfl
@[simp] theorem discardTrunk_clock (s : State) : (discardTrunk s).clock = s.clock := rfl
@[simp] theorem discardTrunk_notices (s : State) : (discardTrunk s).notices = s.notices := rfl
@[simp] theorem discardTrunk_resetPin (s : State) : (discardTrunk s).resetPin = s.resetPin := rfl
@[simp] theorem discardTrunk_pending (s : State) : (discardTrunk s).pending = s.pending := rfl

/-! ### setHead -/

@[simp] theorem setHead_field (s : State) (st : Slot → SlotState) : (setHead s st).field = s.field := rfl
@[simp] theorem setHead_trunk (s : State) (st : Slot → SlotState) : (setHead s st).trunk = s.trunk := rfl
@[simp] theorem setHead_lanes (s : State) (st : Slot → SlotState) : (setHead s st).lanes = s.lanes := rfl
@[simp] theorem setHead_store (s : State) (st : Slot → SlotState) : (setHead s st).store = s.store := rfl
@[simp] theorem setHead_pool (s : State) (st : Slot → SlotState) : (setHead s st).pool = s.pool := rfl
@[simp] theorem setHead_weights (s : State) (st : Slot → SlotState) : (setHead s st).weights = s.weights := rfl
@[simp] theorem setHead_settle (s : State) (st : Slot → SlotState) : (setHead s st).settle = s.settle := rfl
@[simp] theorem setHead_circ (s : State) (st : Slot → SlotState) : (setHead s st).circ = s.circ := rfl
@[simp] theorem setHead_findq (s : State) (st : Slot → SlotState) : (setHead s st).findq = s.findq := rfl
@[simp] theorem setHead_opts (s : State) (st : Slot → SlotState) : (setHead s st).opts = s.opts := rfl
@[simp] theorem setHead_clock (s : State) (st : Slot → SlotState) : (setHead s st).clock = s.clock := rfl
@[simp] theorem setHead_notices (s : State) (st : Slot → SlotState) : (setHead s st).notices = s.notices := rfl
@[simp] theorem setHead_resetPin (s : State) (st : Slot → SlotState) : (setHead s st).resetPin = s.resetPin := rfl
@[simp] theorem setHead_pending (s : State) (st : Slot → SlotState) : (setHead s st).pending = s.pending := rfl

/-! ### answerHead -/

@[simp] theorem answerHead_field (s : State) (a : Answer) : (answerHead s a).field = s.field := rfl
@[simp] theorem answerHead_trunk (s : State) (a : Answer) : (answerHead s a).trunk = s.trunk := rfl
@[simp] theorem answerHead_lanes (s : State) (a : Answer) : (answerHead s a).lanes = s.lanes := rfl
@[simp] theorem answerHead_store (s : State) (a : Answer) : (answerHead s a).store = s.store := rfl
@[simp] theorem answerHead_pool (s : State) (a : Answer) : (answerHead s a).pool = s.pool := rfl
@[simp] theorem answerHead_weights (s : State) (a : Answer) : (answerHead s a).weights = s.weights := rfl
@[simp] theorem answerHead_settle (s : State) (a : Answer) : (answerHead s a).settle = s.settle := rfl
@[simp] theorem answerHead_circ (s : State) (a : Answer) : (answerHead s a).circ = s.circ := rfl
@[simp] theorem answerHead_findq (s : State) (a : Answer) : (answerHead s a).findq = s.findq := rfl
@[simp] theorem answerHead_opts (s : State) (a : Answer) : (answerHead s a).opts = s.opts := rfl
@[simp] theorem answerHead_clock (s : State) (a : Answer) : (answerHead s a).clock = s.clock := rfl
@[simp] theorem answerHead_notices (s : State) (a : Answer) : (answerHead s a).notices = s.notices := rfl
@[simp] theorem answerHead_resetPin (s : State) (a : Answer) : (answerHead s a).resetPin = s.resetPin := rfl
@[simp] theorem answerHead_pending (s : State) (a : Answer) : (answerHead s a).pending = s.pending := rfl

/-! ### beginService -/

@[simp] theorem beginService_field (s : State) (w : Work) : (beginService s w).field = s.field := rfl
@[simp] theorem beginService_trunk (s : State) (w : Work) : (beginService s w).trunk = s.trunk := rfl
@[simp] theorem beginService_lanes (s : State) (w : Work) : (beginService s w).lanes = s.lanes := rfl
@[simp] theorem beginService_store (s : State) (w : Work) : (beginService s w).store = s.store := rfl
@[simp] theorem beginService_pool (s : State) (w : Work) : (beginService s w).pool = s.pool := rfl
@[simp] theorem beginService_weights (s : State) (w : Work) : (beginService s w).weights = s.weights := rfl
@[simp] theorem beginService_settle (s : State) (w : Work) : (beginService s w).settle = s.settle := rfl
@[simp] theorem beginService_circ (s : State) (w : Work) : (beginService s w).circ = s.circ := rfl
@[simp] theorem beginService_findq (s : State) (w : Work) : (beginService s w).findq = s.findq := rfl
@[simp] theorem beginService_opts (s : State) (w : Work) : (beginService s w).opts = s.opts := rfl
@[simp] theorem beginService_clock (s : State) (w : Work) : (beginService s w).clock = s.clock := rfl
@[simp] theorem beginService_notices (s : State) (w : Work) : (beginService s w).notices = s.notices := rfl
@[simp] theorem beginService_resetPin (s : State) (w : Work) : (beginService s w).resetPin = s.resetPin := rfl
@[simp] theorem beginService_pending (s : State) (w : Work) : (beginService s w).pending = s.pending := rfl

/-! ### noteEdges -/

@[simp] theorem noteEdges_field (old : Conditions) (s : State) : (noteEdges old s).field = s.field := rfl
@[simp] theorem noteEdges_trunk (old : Conditions) (s : State) : (noteEdges old s).trunk = s.trunk := rfl
@[simp] theorem noteEdges_lanes (old : Conditions) (s : State) : (noteEdges old s).lanes = s.lanes := rfl
@[simp] theorem noteEdges_store (old : Conditions) (s : State) : (noteEdges old s).store = s.store := rfl
@[simp] theorem noteEdges_pool (old : Conditions) (s : State) : (noteEdges old s).pool = s.pool := rfl
@[simp] theorem noteEdges_weights (old : Conditions) (s : State) : (noteEdges old s).weights = s.weights := rfl
@[simp] theorem noteEdges_settle (old : Conditions) (s : State) : (noteEdges old s).settle = s.settle := rfl
@[simp] theorem noteEdges_circ (old : Conditions) (s : State) : (noteEdges old s).circ = s.circ := rfl
@[simp] theorem noteEdges_findq (old : Conditions) (s : State) : (noteEdges old s).findq = s.findq := rfl
@[simp] theorem noteEdges_requests (old : Conditions) (s : State) : (noteEdges old s).requests = s.requests := rfl
@[simp] theorem noteEdges_opts (old : Conditions) (s : State) : (noteEdges old s).opts = s.opts := rfl
@[simp] theorem noteEdges_clock (old : Conditions) (s : State) : (noteEdges old s).clock = s.clock := rfl
@[simp] theorem noteEdges_resetPin (old : Conditions) (s : State) : (noteEdges old s).resetPin = s.resetPin := rfl
@[simp] theorem noteEdges_pending (old : Conditions) (s : State) : (noteEdges old s).pending = s.pending := rfl

/-! ### withEdges -/

@[simp] theorem withEdges_field (s : State) (change : State → State) : (withEdges s change).field = (change s).field := rfl
@[simp] theorem withEdges_trunk (s : State) (change : State → State) : (withEdges s change).trunk = (change s).trunk := rfl
@[simp] theorem withEdges_lanes (s : State) (change : State → State) : (withEdges s change).lanes = (change s).lanes := rfl
@[simp] theorem withEdges_store (s : State) (change : State → State) : (withEdges s change).store = (change s).store := rfl
@[simp] theorem withEdges_pool (s : State) (change : State → State) : (withEdges s change).pool = (change s).pool := rfl
@[simp] theorem withEdges_weights (s : State) (change : State → State) : (withEdges s change).weights = (change s).weights := rfl
@[simp] theorem withEdges_settle (s : State) (change : State → State) : (withEdges s change).settle = (change s).settle := rfl
@[simp] theorem withEdges_circ (s : State) (change : State → State) : (withEdges s change).circ = (change s).circ := rfl
@[simp] theorem withEdges_findq (s : State) (change : State → State) : (withEdges s change).findq = (change s).findq := rfl
@[simp] theorem withEdges_requests (s : State) (change : State → State) : (withEdges s change).requests = (change s).requests := rfl
@[simp] theorem withEdges_opts (s : State) (change : State → State) : (withEdges s change).opts = (change s).opts := rfl
@[simp] theorem withEdges_clock (s : State) (change : State → State) : (withEdges s change).clock = (change s).clock := rfl
@[simp] theorem withEdges_resetPin (s : State) (change : State → State) : (withEdges s change).resetPin = (change s).resetPin := rfl
@[simp] theorem withEdges_pending (s : State) (change : State → State) : (withEdges s change).pending = (change s).pending := rfl

/-! ### setMode -/

@[simp] theorem State.setMode_field (s : State) (l : Fin 8) (m : LaneMode) : (s.setMode l m).field = s.field := rfl
@[simp] theorem State.setMode_trunk (s : State) (l : Fin 8) (m : LaneMode) : (s.setMode l m).trunk = s.trunk := rfl
@[simp] theorem State.setMode_store (s : State) (l : Fin 8) (m : LaneMode) : (s.setMode l m).store = s.store := rfl
@[simp] theorem State.setMode_pool (s : State) (l : Fin 8) (m : LaneMode) : (s.setMode l m).pool = s.pool := rfl
@[simp] theorem State.setMode_weights (s : State) (l : Fin 8) (m : LaneMode) : (s.setMode l m).weights = s.weights := rfl
@[simp] theorem State.setMode_settle (s : State) (l : Fin 8) (m : LaneMode) : (s.setMode l m).settle = s.settle := rfl
@[simp] theorem State.setMode_circ (s : State) (l : Fin 8) (m : LaneMode) : (s.setMode l m).circ = s.circ := rfl
@[simp] theorem State.setMode_findq (s : State) (l : Fin 8) (m : LaneMode) : (s.setMode l m).findq = s.findq := rfl
@[simp] theorem State.setMode_requests (s : State) (l : Fin 8) (m : LaneMode) : (s.setMode l m).requests = s.requests := rfl
@[simp] theorem State.setMode_opts (s : State) (l : Fin 8) (m : LaneMode) : (s.setMode l m).opts = s.opts := rfl
@[simp] theorem State.setMode_clock (s : State) (l : Fin 8) (m : LaneMode) : (s.setMode l m).clock = s.clock := rfl
@[simp] theorem State.setMode_resetPin (s : State) (l : Fin 8) (m : LaneMode) : (s.setMode l m).resetPin = s.resetPin := rfl
@[simp] theorem State.setMode_pending (s : State) (l : Fin 8) (m : LaneMode) : (s.setMode l m).pending = s.pending := rfl

/-! ### Reading back what an update wrote -/

@[simp] theorem State.setLane_lane_same (s : State) (l : Fin 8) (r : Lane) : (s.setLane l r).lane l = r := by
  simp [State.lane, State.setLane]

@[simp] theorem State.setLane_lane_other (s : State) (l m : Fin 8) (r : Lane) (h : l ≠ m) :
    (s.setLane l r).lane m = s.lane m := by
  have : l.val ≠ m.val := fun e => h (Fin.ext e)
  simp [State.lane, State.setLane, Vector.getElem_set_ne, this]

@[simp] theorem State.setContext_context_same (s : State) (c : Fin 16) (r : Option Context) :
    (s.setContext c r).context c = r := by
  simp [State.context, State.setContext]

@[simp] theorem State.setContext_context_other (s : State) (c d : Fin 16) (r : Option Context) (h : c ≠ d) :
    (s.setContext c r).context d = s.context d := by
  have : c.val ≠ d.val := fun e => h (Fin.ext e)
  simp [State.context, State.setContext, Vector.getElem_set_ne, this]

@[simp] theorem State.setContext_freeSlots (s : State) (c : Fin 16) (r : Option Context) :
    (s.setContext c r).pool.freeSlots = s.pool.freeSlots := rfl
@[simp] theorem State.setLane_next (s : State) (l : Fin 8) (r : Lane) : (s.setLane l r).lanes.next = s.lanes.next := rfl
@[simp] theorem State.setItem_segments (s : State) (i : Nat) (r : Item) :
    (s.setItem i r).store.segments = s.store.segments := rfl
@[simp] theorem State.setItem_tagIndex (s : State) (i : Nat) (r : Item) :
    (s.setItem i r).store.tagIndex = s.store.tagIndex := rfl
@[simp] theorem State.setSegment_items (s : State) (g : Nat) (r : Segment) :
    (s.setSegment g r).store.items = s.store.items := rfl
@[simp] theorem State.setSegment_tagIndex (s : State) (g : Nat) (r : Segment) :
    (s.setSegment g r).store.tagIndex = s.store.tagIndex := rfl
@[simp] theorem State.setSettle_queue (s : State) (w : Settle) : (s.setSettle w).settle.queue = s.settle.queue := rfl
@[simp] theorem State.setSettle_engine (s : State) (w : Settle) : (s.setSettle w).settle.engine = .settling w := rfl
@[simp] theorem State.setSlots_slots (s : State) (slots : List Slot) : (s.setSlots slots).requests.slots = slots := rfl
@[simp] theorem State.setSlots_discards (s : State) (slots : List Slot) :
    (s.setSlots slots).requests.discards = s.requests.discards := rfl
@[simp] theorem State.setPending_pending (s : State) (cs : List Instr) : (s.setPending cs).pending = cs := rfl
@[simp] theorem State.setTrunkTx_tx (s : State) (tx : Option TrunkTx) : (s.setTrunkTx tx).trunk.tx = tx := rfl
@[simp] theorem State.setFieldTx_tx (s : State) (tx : Option FieldTx) : (s.setFieldTx tx).field.tx = tx := rfl

end Sys2Proof.Machine
end

