-- ==== Sys2Proof/Laws/Ops.lean ====
section
/-! SUPPORT. What the shared operations do, said once: tables keep their form and read back what was written, pushes
take or discard, the head request's slot takes its reply. -/

namespace Sys2Proof.Machine

/-! ### Tables -/

/-- Writing an entry keeps the keys strictly rising. -/
theorem tput_wf {α : Type} (t : Table α) (n : Nat) (x : α) (h : Table.wf t) : Table.wf (tput t n x) := by
  have key : ∀ (t : Table α), Table.wf t → Table.wf (tput t n x) ∧
      ∀ a ∈ (tput t n x).map Prod.fst, a = n ∨ a ∈ t.map Prod.fst := by
    intro t
    induction t with
    | nil => intro _; simp [tput, Table.wf]
    | cons e t ih =>
      obtain ⟨k, v⟩ := e
      intro h
      simp only [Table.wf, List.map_cons, List.pairwise_cons] at h
      obtain ⟨hw, hm⟩ := ih h.2
      unfold tput
      split
      · rename_i hlt
        refine ⟨?_, by simp⟩
        simp only [Table.wf, List.map_cons, List.pairwise_cons]
        refine ⟨?_, h⟩
        intro a ha
        rcases List.mem_cons.1 ha with rfl | ha
        · exact hlt
        · exact Nat.lt_trans hlt (h.1 a ha)
      · split
        · rename_i _ heq
          subst heq
          exact ⟨by simpa [Table.wf, List.pairwise_cons] using h, by simp⟩
        · rename_i h1 h2
          have hkn : k < n := by omega
          refine ⟨?_, ?_⟩
          · simp only [Table.wf, List.map_cons, List.pairwise_cons]
            refine ⟨?_, hw⟩
            intro a ha
            rcases hm a ha with rfl | ha
            · exact hkn
            · exact h.1 a ha
          · intro a ha
            rcases List.mem_cons.1 ha with rfl | ha
            · simp
            · rcases hm a ha with h | h
              · exact .inl h
              · exact .inr (by simp [h])
  exact (key t h).1

/-- Dropping entries keeps the keys strictly rising. -/
theorem tfilter_wf {α : Type} (keep : Nat → α → Bool) (t : Table α) (h : Table.wf t) : Table.wf (tfilter keep t) :=
  List.Pairwise.sublist (List.Sublist.map _ List.filter_sublist) h

/-- Changing records in place keeps every key. -/
theorem tmap_keys {α : Type} (f : Nat → α → α) (t : Table α) : (tmap f t).map Prod.fst = t.map Prod.fst := by
  simp [tmap, List.map_map, Function.comp_def]

/-- Changing records in place keeps the keys strictly rising. -/
theorem tmap_wf {α : Type} (f : Nat → α → α) (t : Table α) (h : Table.wf t) : Table.wf (tmap f t) := by
  unfold Table.wf; rw [tmap_keys]; exact h

/-- Erasing an entry keeps the keys strictly rising. -/
theorem terase_wf {α : Type} (t : Table α) (n : Nat) (h : Table.wf t) : Table.wf (terase t n) := tfilter_wf _ t h

/-- The written key reads back what was written. -/
@[simp] theorem tget_tput_same {α : Type} (t : Table α) (n : Nat) (x : α) : tget (tput t n x) n = some x := by
  induction t with
  | nil => simp [tput, tget]
  | cons e t ih =>
    obtain ⟨k, v⟩ := e
    unfold tput
    split
    · simp [tget]
    · split
      · simp [tget]
      · rename_i h1 h2; simp [tget, h2, ih]

/-- Every other key reads as before. -/
theorem tget_tput_other {α : Type} (t : Table α) (n m : Nat) (x : α) (h : m ≠ n) :
    tget (tput t n x) m = tget t m := by
  induction t with
  | nil => simp [tput, tget, h]
  | cons e t ih =>
    obtain ⟨k, v⟩ := e
    unfold tput
    split
    · simp [tget, h]
    · split
      · rename_i _ h2; subst h2; simp [tget, h]
      · simp only [tget, ih]

/-- A record in place reads back changed. -/
theorem tget_tmap {α : Type} (f : Nat → α → α) (t : Table α) (n : Nat) :
    tget (tmap f t) n = (tget t n).map (f n) := by
  induction t with
  | nil => rfl
  | cons e t ih =>
    obtain ⟨k, v⟩ := e
    simp only [tmap, List.map_cons, tget] at ih ⊢
    split
    · rename_i h; subst h; rfl
    · exact ih

/-- In a table of the form, a key reads its record exactly when the entry is listed. -/
theorem tget_eq_some {α : Type} (t : Table α) (h : Table.wf t) (n : Nat) (x : α) :
    tget t n = some x ↔ (n, x) ∈ t := by
  induction t with
  | nil => simp [tget]
  | cons e t ih =>
    obtain ⟨k, v⟩ := e
    simp only [Table.wf, List.map_cons, List.pairwise_cons] at h
    unfold tget
    split
    · rename_i hk
      subst hk
      constructor
      · intro hx; simp only [Option.some.injEq] at hx; simp [hx]
      · intro hx
        rcases List.mem_cons.1 hx with hx | hx
        · simpa using (Prod.mk.inj hx).2.symm
        · exact absurd (h.1 n (List.mem_map.2 ⟨_, hx, rfl⟩)) (by omega)
    · rename_i hk
      rw [ih h.2]
      simp [hk]

/-- Filtering by a test of the key and the record keeps exactly the entries that pass. -/
theorem tget_tfilter {α : Type} (keep : Nat → α → Bool) (t : Table α) (h : Table.wf t) (n : Nat) :
    tget (tfilter keep t) n = (tget t n).filter (keep n) := by
  apply Option.ext
  intro x
  rw [tget_eq_some _ (tfilter_wf keep t h), Option.filter_eq_some_iff, tget_eq_some t h]
  simp [tfilter, List.mem_filter]

/-- An erased key reads nothing. -/
theorem tget_terase_same {α : Type} (t : Table α) (h : Table.wf t) (n : Nat) : tget (terase t n) n = none := by
  rw [terase, tget_tfilter _ t h]; cases tget t n <;> simp [Option.filter]

/-- Erasing one key leaves the others. -/
theorem tget_terase_other {α : Type} (t : Table α) (h : Table.wf t) (n m : Nat) (hm : m ≠ n) :
    tget (terase t n) m = tget t m := by
  rw [terase, tget_tfilter _ t h]
  cases tget t m <;> simp [Option.filter, hm]

/-! ### Sorting -/

/-- Sorting puts the same entries in another order. -/
theorem insertBy_perm {α : Type} (before : α → α → Bool) (x : α) (l : List α) : (insertBy before x l).Perm (x :: l) := by
  induction l with
  | nil => simp [insertBy]
  | cons y ys ih =>
    unfold insertBy
    split
    · exact (List.Perm.cons y ih).trans (List.Perm.swap x y ys)
    · exact List.Perm.refl _

/-- Sorting puts the same entries in another order. -/
theorem sortBy_perm {α : Type} (before : α → α → Bool) (l : List α) : (sortBy before l).Perm l := by
  induction l with
  | nil => exact List.Perm.refl _
  | cons x xs ih => exact (insertBy_perm before x _).trans (List.Perm.cons x ih)

/-! ### Tallies -/

/-- A tally never passes its limit. -/
theorem satAdd_le (cap x n : Nat) : satAdd cap x n ≤ cap := Nat.min_le_left _ _

/-- Below its limit a tally counts. -/
theorem satAdd_eq (cap x n : Nat) (h : x + n ≤ cap) : satAdd cap x n = x + n := Nat.min_eq_right h

/-- A clamped number lies within its bounds. -/
theorem clampInt_bounds (lo hi v : Int) (h : lo ≤ hi) : lo ≤ clampInt lo hi v ∧ clampInt lo hi v ≤ hi := by
  unfold clampInt; split <;> try split
  all_goals omega

/-! ### Findings -/

/-- A push of another producer joins the tail below 256 records, and else is counted as lost (R147). -/
theorem pushOther_findq (s : State) (f : Finding) :
    (pushOther s f).findq =
      if s.findq.records.length < 256 then { s.findq with records := s.findq.records ++ [f] }
      else { s.findq with lost := true, lostTally := tallyAdd s.findq.lostTally 1 } := by
  unfold pushOther; rw [withEdges_findq]; dsimp only [Config.findingsCap]; split <;> rfl

/-- A push of another producer touches the Findings Queue and the notices alone. -/
theorem pushOther_frame (s : State) (f : Finding) :
    pushOther s f = { s with findq := (pushOther s f).findq, notices := (pushOther s f).notices } := by
  unfold pushOther withEdges noteEdges; dsimp only; split <;> rfl

/-- A settle finding joins the tail, stamped with the time of the push (R113). -/
theorem appendSettle_findq (s : State) (f : Finding) :
    (appendSettle s f).findq = { s.findq with records := s.findq.records ++ [{ f with time := s.clock.value }] } := rfl

/-- A settle's push touches the Findings Queue and the notices alone. -/
theorem appendSettle_frame (s : State) (f : Finding) :
    appendSettle s f = { s with findq := (appendSettle s f).findq, notices := (appendSettle s f).notices } := rfl

/-- A settle's push is taken below 240 records; else the finding is kept (R116, R148). -/
theorem settlePush_cases (s : State) (w : Settle) (f : Finding) :
    (s.findq.records.length < 240 ∧ settlePush s w f = (appendSettle s f).setSettle w) ∨
    (240 ≤ s.findq.records.length ∧ (settlePush s w f).findq = s.findq ∧
      (settlePush s w f).settle = { s.settle with engine := .settling { w with kept := some f } }) := by
  unfold settlePush
  by_cases h : s.findq.records.length < Config.settleCeiling
  · exact .inl ⟨h, by simp [h]⟩
  · exact .inr ⟨Nat.not_lt.1 h, by simp [h], by simp [h]; rfl⟩

/-! ### The head of the Request Queue -/

/-- With every older slot answered, the oldest unanswered slot is the one found. -/
theorem find_unanswered (before after : List Slot) (sl : Slot) (hb : ∀ x ∈ before, unanswered x = false)
    (hs : unanswered sl = true) : (before ++ sl :: after).find? unanswered = some sl := by
  induction before with
  | nil => simp [hs]
  | cons x xs ih =>
    have hx := hb x (by simp)
    simp only [List.cons_append, List.find?_cons, hx]
    exact ih fun y hy => hb y (by simp [hy])

/-- With every older slot answered, the oldest unanswered slot is the one changed. -/
theorem changeFirst_unanswered (f : Slot → Slot) (before after : List Slot) (sl : Slot)
    (hb : ∀ x ∈ before, unanswered x = false) (hs : unanswered sl = true) :
    changeFirst unanswered f (before ++ sl :: after) = before ++ f sl :: after := by
  induction before with
  | nil => simp [changeFirst, hs]
  | cons x xs ih =>
    have hx := hb x (by simp)
    simp only [List.cons_append, changeFirst, hx]
    simp [ih fun y hy => hb y (by simp [hy])]

/-- The request of a PENDING slot behind answered ones is next to be served (R173). -/
theorem nextRequest_eq (s : State) (before after : List Slot) (sl : Slot)
    (hq : s.requests.slots = before ++ sl :: after) (hb : ∀ x ∈ before, unanswered x = false)
    (hp : sl.state = .pending) : nextRequest s = some sl.request := by
  have hs : unanswered sl = true := by simp [unanswered, hp]
  simp [nextRequest, headSlot, hq, find_unanswered before after sl hb hs, hp]

/-- A request that takes no time: the effect runs on the state with its slot IN_SERVICE, and the slot then takes the
reply (R173). -/
theorem serveNow_eq (s : State) (before after : List Slot) (sl : Slot) (effect : State → State × Answer)
    (hq : s.requests.slots = before ++ sl :: after) (hb : ∀ x ∈ before, unanswered x = false)
    (hp : sl.state = .pending)
    (hk : (effect (beginService s .atOnce)).1.requests = (beginService s .atOnce).requests) :
    serveNow s effect =
      (effect (beginService s .atOnce)).1.setSlots
        (before ++ { sl with state := .replyReady (replyTo sl (effect (beginService s .atOnce)).2) } :: after) := by
  have hs : unanswered sl = true := by simp [unanswered, hp]
  have h1 : (beginService s .atOnce).requests.slots =
      before ++ { sl with state := .inService .atOnce } :: after := by
    simp [beginService, setHead, hq, changeFirst_unanswered _ before after sl hb hs]
  unfold serveNow answerHead setHead
  dsimp only
  rw [hk, h1, changeFirst_unanswered _ before after _ hb (by simp [unanswered])]
  rfl

/-- The slots while a request that takes no time is served. -/
theorem beginService_slots (s : State) (before after : List Slot) (sl : Slot) (w : Work)
    (hq : s.requests.slots = before ++ sl :: after) (hb : ∀ x ∈ before, unanswered x = false)
    (hs : unanswered sl = true) :
    beginService s w = s.setSlots (before ++ { sl with state := .inService w } :: after) := by
  simp [beginService, setHead, hq, changeFirst_unanswered _ before after sl hb hs]

/-! ### Frames -/

/-- A lane frame received in good form acts; otherwise the Field Port alone changes (R160, R161). -/
theorem takeLaneFrame_cases (s : State) (lane : Nat) (ok : Bool) (act : Fin 8 → State → State) :
    (fieldReceives s = true ∧ ∃ h : lane < 8, ok = true ∧ takeLaneFrame s lane ok act = act ⟨lane, h⟩ s) ∨
    (fieldReceives s = true ∧ (8 ≤ lane ∨ ok = false) ∧ takeLaneFrame s lane ok act = discardField s) ∨
    (fieldReceives s = false ∧ takeLaneFrame s lane ok act = s) := by
  unfold takeLaneFrame
  by_cases hr : fieldReceives s = true
  · by_cases h : lane < 8 ∧ ok = true
    · exact .inl ⟨hr, h.1, h.2, by simp [hr, h]⟩
    · refine .inr (.inl ⟨hr, ?_, by simp [hr, h]⟩)
      rcases Nat.lt_or_ge lane 8 with hl | hl
      · exact .inr (by cases ok <;> simp_all)
      · exact .inl hl
  · exact .inr (.inr ⟨by simpa using hr, by simp [hr]⟩)

/-- A trunk frame received in good form acts; otherwise the Trunk Port alone changes (R160, R161). -/
theorem takeTrunkFrame_cases (s : State) (ok : Bool) (act : State → State) :
    (trunkReceives s = true ∧ ok = true ∧ takeTrunkFrame s ok act = act s) ∨
    (trunkReceives s = true ∧ ok = false ∧ takeTrunkFrame s ok act = discardTrunk s) ∨
    (trunkReceives s = false ∧ takeTrunkFrame s ok act = s) := by
  unfold takeTrunkFrame
  cases hr : trunkReceives s <;> cases ok <;> simp

/-! ### Queues of a port and of a lane -/

/-- A frame offered to the Field-Out Queue joins below 16 frames and else is counted as dropped (R167). -/
theorem offerFieldOut_field (s : State) (f : OutFrame) :
    (offerFieldOut s f).field =
      if s.field.out.length < 16 then { s.field with out := s.field.out ++ [f] }
      else { s.field with outDrops := tallyAdd s.field.outDrops 1 } := by
  unfold offerFieldOut; dsimp only [Config.fieldOutCap]; split <;> rfl

/-- The pause thresholds of one lane change its paused flag, its pending control signal and the notices alone. -/
theorem evalPause_frame (s : State) (l : Fin 8) :
    evalPause s l = { s with lanes := (evalPause s l).lanes, field := (evalPause s l).field,
                             notices := (evalPause s l).notices } := by
  unfold evalPause withEdges noteEdges handSignal State.setLane; dsimp only
  split
  · rfl
  · split <;> rfl

/-- Whatever the thresholds do to a lane, its queue and mode stay. -/
theorem evalPause_lane (s : State) (l m : Fin 8) :
    ((evalPause s l).lane m).queue = (s.lane m).queue ∧ ((evalPause s l).lane m).mode = (s.lane m).mode := by
  have key : ∀ p, ((s.setLane l { s.lane l with paused := p }).lane m).queue = (s.lane m).queue ∧
      ((s.setLane l { s.lane l with paused := p }).lane m).mode = (s.lane m).mode := by
    intro p
    by_cases h : l = m
    · subst h; simp
    · simp [h]
  unfold evalPause; dsimp only
  split
  · exact key true
  · split
    · exact key false
    · exact ⟨rfl, rfl⟩

end Sys2Proof.Machine
end

