-- ==== Sys2Proof/Laws/Contexts.lean ====
section
/-! SUPPORT. What replacing a lane's state, closing a context, evaluating the thresholds and draining an entry do, said
once. -/

namespace Sys2Proof.Machine

/-- Two states with the same fields are the same. -/
theorem State.ext_fields {s t : State} (h1 : s.field = t.field) (h2 : s.trunk = t.trunk) (h3 : s.lanes = t.lanes)
    (h4 : s.store = t.store) (h5 : s.pool = t.pool) (h6 : s.weights = t.weights) (h7 : s.settle = t.settle)
    (h8 : s.circ = t.circ) (h9 : s.findq = t.findq) (h10 : s.requests = t.requests) (h11 : s.opts = t.opts)
    (h12 : s.clock = t.clock) (h13 : s.notices = t.notices) (h14 : s.resetPin = t.resetPin)
    (h15 : s.pending = t.pending) : s = t := by
  cases s; cases t; simp_all

/-- A lane of a state whose lane l has been replaced. -/
theorem State.setLane_lane (s : State) (l m : Fin 8) (r : Lane) :
    (s.setLane l r).lane m = if m = l then r else s.lane m := by
  by_cases h : m = l
  · subst h; simp
  · rw [if_neg h]
    have : l ≠ m := fun e => h e.symm
    simp [this]

/-- Equal lane tables have equal lanes. -/
theorem State.lane_eq_of_lanes {s t : State} (h : s.lanes = t.lanes) (l : Fin 8) : s.lane l = t.lane l := by
  unfold State.lane; rw [h]

/-- A context of a state whose context c has been replaced. -/
theorem State.setContext_context (s : State) (c d : Fin 16) (r : Option Context) :
    (s.setContext c r).context d = if d = c then r else s.context d := by
  by_cases h : d = c
  · subst h; simp
  · rw [if_neg h]
    have : c ≠ d := fun e => h e.symm
    simp [this]

/-- A segment after a phase has been replaced. -/
theorem State.setPhase_segment (s : State) (g h : Nat) (p : Phase) :
    (s.setPhase g p).segment h =
      if h = g then (s.segment g).map (fun r => { r with phase := p }) else s.segment h := by
  unfold State.setPhase
  cases hg : s.segment g with
  | none => by_cases e : h = g
            · subst e; simp [hg]
            · simp [e]
  | some r =>
    by_cases e : h = g
    · subst e; simp [State.segment, State.setSegment]
    · simp [State.segment, State.setSegment, e, tget_tput_other _ _ _ _ e]

/-- A phase replaced leaves items, index and free figures. -/
theorem State.setPhase_store (s : State) (g : Nat) (p : Phase) :
    (s.setPhase g p).store = { s.store with segments := (s.setPhase g p).store.segments } := by
  unfold State.setPhase; split <;> rfl

/-- Every lane's flag is set, if it is WAITING. -/
@[simp] theorem flagWaiting_lane (s : State) (l : Fin 8) : (flagWaiting s).lane l = flagLane (s.lane l) := by
  simp [flagWaiting, State.lane]

/-- Setting flags leaves the next-lane pointer. -/
@[simp] theorem flagWaiting_next (s : State) : (flagWaiting s).lanes.next = s.lanes.next := rfl

/-- A lane that is not WAITING has no flag to set. -/
theorem flagLane_mode (r : Lane) (h : isWaiting r.mode = false) : flagLane r = r := by
  unfold flagLane; split
  · rename_i e; simp [e, isWaiting] at h
  · rfl

/-- A flag set twice is set. -/
theorem flagLane_idem (r : Lane) : flagLane (flagLane r) = flagLane r := by
  obtain ⟨m, _, _, _, _, _, _, _⟩ := r
  cases m <;> rfl

/-- Nothing that a condition depends on has changed: the notices stay as they are. -/
theorem noteEdges_same (old : Conditions) (s : State) (h : liveConditions s = old) :
    noteEdges old s = s := by
  unfold noteEdges latchEdges
  rw [h]
  cases s; simp

/-- A lane's state replaced: DETACHED apart, no condition changes. -/
theorem State.setMode_eq (s : State) (l : Fin 8) (m : LaneMode) (h : attached (s.lane l) = decide (m ≠ .detached)) :
    s.setMode l m = s.setLane l { s.lane l with mode := m } := by
  unfold State.setMode withEdges
  apply noteEdges_same
  unfold liveConditions conditionBits findqHigh poolLow deferHigh settleStalled
  have e1 : ∀ f : Lane → Bool, f { s.lane l with mode := m } = f (s.lane l) →
      (s.setLane l { s.lane l with mode := m }).lanes.recs.toList.map f = s.lanes.recs.toList.map f := by
    intro f hf
    apply List.ext_getElem (by simp)
    intro i h1 h2
    simp only [State.setLane, List.getElem_map, Vector.getElem_toList, Vector.getElem_set]
    split
    · rename_i hi; subst hi; exact hf
    · rfl
  rw [e1 attached (by unfold attached at *; simpa using h.symm), e1 (·.paused) rfl]
  rfl

/-- A lane after one lane's state has been replaced. -/
theorem State.setMode_lane (s : State) (l k : Fin 8) (m : LaneMode) :
    (s.setMode l m).lane k = if k = l then { s.lane l with mode := m } else s.lane k := by
  rw [← State.setLane_lane]; rfl

/-- The next-lane pointer stays when a lane's state is replaced. -/
@[simp] theorem State.setMode_next (s : State) (l : Fin 8) (m : LaneMode) :
    (s.setMode l m).lanes.next = s.lanes.next := rfl

/-- A close of an OPEN context, whole (R78, R79, R82). -/
theorem closeContext_closes (s : State) (c : Fin 16) (ctx : Context) (l : Fin 8) (cause : CloseCause)
    (h : OpenIn s c ctx l) :
    closeContext s c cause = if ctx.observations = [] then emptyClose s c ctx else handOff s c ctx l cause := by
  unfold closeContext
  rw [h.context]; simp only [h.phase, List.isEmpty_iff]

/-- An empty close touches the store, the pool and the lanes alone. -/
theorem emptyClose_frame (s : State) (c : Fin 16) (ctx : Context) :
    emptyClose s c ctx = { s with store := (emptyClose s c ctx).store, pool := (emptyClose s c ctx).pool, lanes := (emptyClose s c ctx).lanes } := by
  unfold emptyClose; apply State.ext_fields <;> simp

/-- A hand-off touches the store, the pool and the Settle Queue alone. -/
theorem handOff_frame (s : State) (c : Fin 16) (ctx : Context) (l : Fin 8) (cause : CloseCause) :
    handOff s c ctx l cause = { s with store := (handOff s c ctx l cause).store, pool := (handOff s c ctx l cause).pool, settle := (handOff s c ctx l cause).settle } := by
  unfold handOff joinSettleQueue; apply State.ext_fields <;> simp

/-- A close touches the store, the pool, the Settle Queue and the lanes alone. -/
theorem closeContext_frame (s : State) (c : Fin 16) (cause : CloseCause) :
    closeContext s c cause = { s with store := (closeContext s c cause).store, pool := (closeContext s c cause).pool,
                                      settle := (closeContext s c cause).settle,
                                      lanes := (closeContext s c cause).lanes } := by
  unfold closeContext
  split
  · rfl
  · split
    · rfl
    · split
      · rw [emptyClose_frame]
      · rw [handOff_frame]

/-- The phase a prior state stands for. -/
theorem priorPhase_eq (p : Prior) : priorPhase p = priorOf p := by cases p <;> rfl

/-- What a close leaves, with everything beside the closed context's lane. -/
theorem closeContext_spec (s : State) (c : Fin 16) (ctx : Context) (l : Fin 8) (cause : CloseCause)
    (h : OpenIn s c ctx l) :
    Closes s (closeContext s c cause) c ctx l cause ∧
      ((closeContext s c cause).lane l = if ctx.observations = [] then flagLane (s.lane l) else s.lane l) ∧
      (closeContext s c cause).lanes.next = s.lanes.next := by
  rw [closeContext_closes s c ctx l cause h]
  by_cases hob : ctx.observations = []
  · simp only [hob, if_true]
    have hstore : (emptyClose s c ctx).store = ((s.setContext c none).setPhase ctx.segment (priorPhase ctx.prior)).store := rfl
    have hpool : (emptyClose s c ctx).pool = (s.setContext c none).pool := by simp [emptyClose]
    have hlane : ∀ m, (emptyClose s c ctx).lane m = flagLane (s.lane m) := by
      intro m; unfold emptyClose
      rw [flagWaiting_lane, State.lane_eq_of_lanes (t := s) (by simp)]
    have hctx : ∀ d, (emptyClose s c ctx).context d = if d = c then none else s.context d := by
      intro d; rw [← State.setContext_context]
      unfold State.context; rw [hpool]
    have hseg : ∀ g, (emptyClose s c ctx).segment g = if g = ctx.segment then (s.segment ctx.segment).map (fun r => { r with phase := priorPhase ctx.prior }) else s.segment g := by
      intro g; exact State.setPhase_segment (s.setContext c none) ctx.segment g _
    refine ⟨⟨fun _ => ⟨?_, by simp [emptyClose], ?_⟩, fun h => absurd hob h, fun d hd => ?_, fun g hg => ?_, ?_, ?_, fun m _ => ?_⟩, hlane l, ?_⟩
    · rw [hctx]; simp
    · rw [hseg, priorPhase_eq]; simp
    · rw [hctx, if_neg hd]
    · rw [hseg, if_neg hg]
    · rw [hpool]; simp
    · rw [hstore, State.setPhase_store]; simp
    · rw [hlane]; simp [hob]
    · simp [emptyClose]
  · simp only [hob, if_false]
    let u := s.setContext c (some { ctx with phase := .closed l cause })
    have hstore : (handOff s c ctx l cause).store = (u.setPhase ctx.segment (.settling c)).store := rfl
    have hpool : (handOff s c ctx l cause).pool = u.pool := by simp [handOff, joinSettleQueue, u]
    have hlanes : (handOff s c ctx l cause).lanes = s.lanes := by simp [handOff, joinSettleQueue]
    have hlane : ∀ m, (handOff s c ctx l cause).lane m = s.lane m := fun m => State.lane_eq_of_lanes hlanes m
    have hctx : ∀ d, (handOff s c ctx l cause).context d = if d = c then some { ctx with phase := .closed l cause } else s.context d := by
      intro d; rw [← State.setContext_context]
      unfold State.context; rw [hpool]
    have hseg : ∀ g, (handOff s c ctx l cause).segment g = if g = ctx.segment then (s.segment ctx.segment).map (fun r => { r with phase := .settling c }) else s.segment g := by
      intro g; exact State.setPhase_segment u ctx.segment g _
    refine ⟨⟨fun h => absurd h hob, fun _ => ⟨?_, by simp [handOff, joinSettleQueue], ?_, ?_⟩, fun d hd => ?_, fun g hg => ?_, ?_, ?_, fun m _ => ?_⟩, hlane l, ?_⟩
    · rw [hctx]; simp
    · simp only [handOff, joinSettleQueue, State.setPhase_settle, State.setContext_settle]
      cases s.settle.engine <;> simp
    · rw [hseg]; simp
    · rw [hctx, if_neg hd]
    · rw [hseg, if_neg hg]
    · rw [hpool]; simp [u]
    · rw [hstore, State.setPhase_store]; simp [u]
    · rw [hlane]; simp [hob]
    · rw [hlanes]

/-- The context of a lane that counts. -/
theorem CountsIn.laneContext {s : State} {l : Fin 8} {g : Nat} {c : Fin 16} {ctx : Context}
    (h : CountsIn s l g c ctx) : laneContext s l = some c := by
  obtain ⟨d, hd⟩ := h.lane
  obtain ⟨r, hr, hp⟩ := h.owned.counting
  rw [h.segment] at hr
  simp [Machine.laneContext, hd, currentSegment, countingContext, hr, hp]

/-- A counting lane's context closed, and the lane in another state (R24, R78). -/
theorem closeLane_spec (s : State) (l : Fin 8) (g : Nat) (c : Fin 16) (ctx : Context) (cause : CloseCause) (m : LaneMode)
    (h : CountsIn s l g c ctx) (hm : m ≠ .detached) :
    Closes s (closeLane s l cause m) c ctx l cause ∧
      (closeLane s l cause m).lane l = { s.lane l with mode := m } ∧
      (closeLane s l cause m).lanes.next = s.lanes.next ∧
      closeLane s l cause m = { s with store := (closeLane s l cause m).store, pool := (closeLane s l cause m).pool, settle := (closeLane s l cause m).settle, lanes := (closeLane s l cause m).lanes } := by
  have e : closeLane s l cause m = (closeContext s c cause).setMode l m := by
    unfold closeLane; rw [h.laneContext]
  obtain ⟨hc, hl, hn⟩ := closeContext_spec s c ctx l cause h.owned
  obtain ⟨d, hd⟩ := h.lane
  have hll : (closeContext s c cause).lane l = s.lane l := by
    rw [hl]; split
    · exact flagLane_mode _ (by simp [hd, isWaiting])
    · rfl
  have e2 : (closeContext s c cause).setMode l m = (closeContext s c cause).setLane l { s.lane l with mode := m } := by
    rw [State.setMode_eq, hll]
    rw [hll]; simp [attached, hd, hm]
  rw [e, e2]
  refine ⟨⟨hc.empty, hc.handOff, hc.contexts, hc.segments, hc.slots, hc.store, ?_⟩, ?_, hn, ?_⟩
  · intro k hk
    rw [State.setLane_lane, if_neg hk]
    exact hc.others k hk
  · rw [State.setLane_lane, if_pos rfl]
  · have := closeContext_frame s c cause
    apply State.ext_fields <;> simp <;> rw [this]

/-! ### Thresholds and drains -/

/-- One lane's thresholds evaluated (R55, R56). -/
theorem evalPause_spec (s : State) (l : Fin 8) :
    let x := pausesAt s.opts [(s.lane l).queue.length] (s.lane l).paused s.field.signals[l.val]
    (∀ m, (evalPause s l).lane m = if m = l then { s.lane l with paused := x.1 } else s.lane m) ∧
    (evalPause s l).field = { s.field with signals := s.field.signals.set l.val x.2 l.isLt } ∧
    (evalPause s l).lanes.next = s.lanes.next := by
  have same : ∀ m, (if m = l then { s.lane l with paused := (s.lane l).paused } else s.lane m) = s.lane m := by
    intro m; split
    · rename_i h; subst h; rfl
    · rfl
  have fsame : ({ s.field with signals := s.field.signals.set l.val s.field.signals[l.val] l.isLt } : FieldPort) = s.field := by
    simp
  unfold evalPause pausesAt; dsimp only [List.foldl]
  unfold pausedAt signalAt
  by_cases hp : (s.lane l).paused = true
  · by_cases hn : (s.lane l).queue.length ≤ s.opts.laneAE
    · have hd : decide (s.opts.laneAE < (s.lane l).queue.length) = false := by simp [hn]
      simp only [hp, hn, hd, Bool.true_eq_false, and_false, if_false, and_self, if_true]
      refine ⟨fun m => ?_, ?_, rfl⟩
      · rw [← State.setLane_lane]; rfl
      · rfl
    · have hd : decide (s.opts.laneAE < (s.lane l).queue.length) = true := by simp; omega
      simp only [hp, hn, hd, Bool.true_eq_false, and_false, if_false, false_and, if_true]
      refine ⟨fun m => ?_, ?_, trivial⟩
      · have := same m; rw [hp] at this; exact this.symm
      · exact fsame.symm
  · have hp' : (s.lane l).paused = false := by simpa using hp
    by_cases hn : s.opts.laneAF ≤ (s.lane l).queue.length
    · simp only [hp', hn, Bool.false_eq_true, and_self, if_true, if_false]
      refine ⟨fun m => ?_, ?_, rfl⟩
      · rw [← State.setLane_lane]; rfl
      · rfl
    · simp only [hp', hn, Bool.false_eq_true, false_and, if_false, and_false]
      refine ⟨fun m => ?_, ?_, trivial⟩
      · have := same m; rw [hp'] at this; exact this.symm
      · exact fsame.symm

/-- An entry taken from a lane's queue (R30, R54 to R56, R59). -/
theorem takeHead_spec (s : State) (l : Fin 8) (e : Entry) (rest : List Entry) (h : (s.lane l).queue = e :: rest) :
    let x := pausesAt s.opts [rest.length] (s.lane l).paused s.field.signals[l.val]
    (∀ m, (takeHead s l).lane m = if m = l then
      { s.lane l with
        queue := rest, paused := x.1
        overrun := (s.lane l).overrun && decide (s.opts.laneAE < rest.length) } else s.lane m) ∧
    (takeHead s l).field = { s.field with signals := s.field.signals.set l.val x.2 l.isLt } ∧
    (takeHead s l).lanes.next = l + 1 ∧
    takeHead s l = { s with lanes := (takeHead s l).lanes, field := (takeHead s l).field, notices := (takeHead s l).notices } := by
  intro x
  let u1 := servedLane s l
  have hu1 : ∀ m, u1.lane m = s.lane m := fun _ => rfl
  let u2 := u1.setLane l { u1.lane l with queue := (u1.lane l).queue.tail }
  have hu2 : ∀ m, u2.lane m = if m = l then { s.lane l with queue := rest } else s.lane m := by
    intro m; show (u1.setLane l _).lane m = _; rw [State.setLane_lane, hu1, hu1, h]; rfl
  let u3 := evalOverrunEnd u2 l
  have hu3 : (∀ m, u3.lane m = if m = l then { s.lane l with queue := rest, overrun := (s.lane l).overrun && decide (s.opts.laneAE < rest.length) } else s.lane m) ∧ u3.field = s.field ∧ u3.opts = s.opts ∧ u3.lanes.next = l + 1 ∧ u3 = { s with lanes := u3.lanes } := by
    show (∀ m, (evalOverrunEnd u2 l).lane m = _) ∧ (evalOverrunEnd u2 l).field = _ ∧ (evalOverrunEnd u2 l).opts = _ ∧ _ ∧ _
    have hq : (u2.lane l).queue.length = rest.length := by rw [hu2]; simp
    unfold u3 evalOverrunEnd; dsimp only
    rw [hq]
    have ho : u2.opts = s.opts := rfl
    rw [ho]
    split
    · rename_i hle
      refine ⟨fun m => ?_, rfl, rfl, rfl, rfl⟩
      rw [State.setLane_lane, hu2, hu2]
      have : decide (s.opts.laneAE < rest.length) = false := by simp; omega
      simp only [this, Bool.and_false, if_true]
      split <;> rfl
    · rename_i hle
      refine ⟨fun m => ?_, rfl, rfl, rfl, rfl⟩
      rw [hu2]
      have : decide (s.opts.laneAE < rest.length) = true := by simp; omega
      simp only [this, Bool.and_true]
  obtain ⟨h1, h2, h3, h4, h5⟩ := hu3
  have e : takeHead s l = evalPause u3 l := rfl
  have sp := evalPause_spec u3 l
  have hl3 : u3.lane l = { s.lane l with queue := rest, overrun := (s.lane l).overrun && decide (s.opts.laneAE < rest.length) } := by rw [h1, if_pos rfl]
  rw [hl3, h2, h3] at sp
  rw [e]
  refine ⟨fun m => ?_, sp.2.1, ?_, ?_⟩
  · rw [sp.1 m]
    split
    · rfl
    · rename_i hm; rw [h1, if_neg hm]
  · rw [sp.2.2, h4]
  · have f := evalPause_frame u3 l
    apply State.ext_fields <;> simp <;> (rw [f]; simp; rw [h5])

/-! ### The arbiter -/

/-- The lane found from a pointer on is the first that passes. -/
theorem firstFrom_eq (start l : Fin 8) (test : Fin 8 → Bool) (h : test l = true)
    (hf : ∀ k : Fin 8, k < l - start → test (start + k) = false) : firstFrom start test = some l := by
  obtain ⟨d, hd⟩ : ∃ d, d = l - start := ⟨_, rfl⟩
  have hl : l = start + d := by rw [hd]; exact (add_sub_cancel start l).symm
  rw [← hd] at hf
  have key : ∀ (ks : List (Fin 8)), ks.Pairwise (· < ·) → d ∈ ks → (ks.map fun k => start + k).find? test = some l := by
    intro ks
    induction ks with
    | nil => intro _ hm; simp at hm
    | cons k ks ih =>
      intro hp hm
      rw [List.pairwise_cons] at hp
      rcases List.mem_cons.1 hm with rfl | hm
      · simp [← hl, h]
      · have := hf k (hp.1 d hm)
        simp only [List.map_cons, List.find?_cons, this]
        exact ih hp.2 hm
  exact key lanesInOrder (by decide) (by fin_cases d <;> decide)

/-- Eligibility, decided (R30). -/
theorem eligible_iff (s : State) (l : Fin 8) : eligible s l = true ↔ Eligible s l := by
  unfold eligible Eligible; split <;> simp_all

/-- The arbiter's choice (R30). -/
theorem ServesNext.choice {s : State} {l : Fin 8} (h : ServesNext s l) : arbiterChoice s = some l := by
  unfold arbiterChoice
  have : restartInService s = false := by
    unfold restartInService; rw [List.any_eq_false]; intro x hx; simpa using h.notStopped x hx
  rw [this]; simp only [Bool.false_eq_true, if_false]
  refine firstFrom_eq _ _ _ ((eligible_iff s l).2 h.eligible) fun k hk => ?_
  have := h.first k hk
  rw [← eligible_iff] at this; simpa using this

/-- The entry drained next (R30, R59). -/
theorem Drains.nextDrain {s : State} {l : Fin 8} {e : Entry} {rest : List Entry} (h : Drains s l e rest) :
    nextDrain s = some (l, e) := by
  unfold Machine.nextDrain
  rw [h.next.choice]; dsimp only
  have : isWaiting (s.lane l).mode = false := by
    unfold isWaiting; split
    · rename_i e; exact absurd e (h.notWaiting _ _ _)
    · rfl
  rw [this, h.queue]; rfl

end Sys2Proof.Machine
end

