-- ==== Sys2Proof/Laws/PerInstr.lean ====
section
/-! SUPPORT. Per command: the frame that brings a well-formed command has the length of R158, and no other command has a
frame. -/

namespace Sys2Proof.Laws

open Sys2Proof Sys2Proof.Machine

/-- A number in k bytes takes k bytes. -/
theorem be_length (k x : Nat) : (be k x).length = k := by
  induction k generalizing x with
  | zero => rfl
  | succ k ih => simp [be, ih]

/-- A frame is its payload with class, length and check (R158). -/
theorem frameBytes_length (cls : Nat) (payload : List Byte) : (frameBytes cls payload).length = payload.length + 4 := by
  simp [frameBytes, be_length]

/-- Records of one length. -/
theorem flatten_length {α : Type} (f : α → List Byte) (n : Nat) (h : ∀ x, (f x).length = n) (xs : List α) :
    ((xs.map f).flatten).length = n * xs.length := by
  induction xs with
  | nil => simp
  | cons x xs ih => simp [h, ih, Nat.mul_add, Nat.add_comm]

/-- The arguments of a well-formed request fit a payload beside tag and kind (R158, 9.7.4). -/
theorem argumentBytes_length (req : Request) (h : req.wellFormed = true) : (argumentBytes req).length ≤ 238 := by
  cases req with
  | loadItems g offset records =>
    simp only [Request.wellFormed, Bool.and_eq_true, decide_eq_true_eq] at h
    have := flatten_length recordBytes 13 (fun r => by simp [recordBytes, be_length]) records
    simp only [argumentBytes, List.length_append, be_length, this]
    omega
  | loadWeights knots =>
    have := flatten_length (fun k : BitVec 16 => be 2 k.toNat) 2 (fun k => by simp [be_length]) knots.toList
    simp only [argumentBytes, this, Vector.length_toList]
    omega
  | unknown code args =>
    simp only [Request.wellFormed, Bool.and_eq_true, decide_eq_true_eq] at h
    exact h.2
  | _ => simp [argumentBytes, be_length]

namespace FrameFits

/-- A well-formed command that a frame brings has one of 4 to 244 bytes (R158, R160). -/
def Statement (i : Instr) : Prop :=
  i.wellFormed = true → ∀ port frame, arrivalFrame i = some (port, frame) → 4 ≤ frame.length ∧ frame.length ≤ 244

/-- A command that no frame brings. -/
theorem of_none (i : Instr) (h : arrivalFrame i = none) : Statement i := by
  intro _ port frame hf; rw [h] at hf; simp at hf

/-- A command brought by a frame whose payload fits. -/
theorem of_frame (i : Instr) (p : Port) (cls : Nat) (payload : List Byte)
    (h : arrivalFrame i = some (p, frameBytes cls payload)) (hl : i.wellFormed = true → payload.length ≤ 240) :
    Statement i := by
  intro hw port frame hf
  rw [h] at hf
  obtain ⟨_, rfl⟩ := Prod.mk.inj (Option.some.inj hf)
  have := hl hw
  rw [frameBytes_length]; omega

/-- IDENTIFY has no frame. -/
theorem identify : Statement .identify := of_none _ rfl
/-- READ_STATUS has no frame. -/
theorem readStatus : Statement .readStatus := of_none _ rfl
/-- OPTION_READ has no frame. -/
theorem optionRead : Statement .optionRead := of_none _ rfl
/-- OPTION_WRITE has no frame. -/
theorem optionWrite : Statement .optionWrite := of_none _ rfl
/-- OPTION_SET has no frame. -/
theorem optionSet : Statement .optionSet := of_none _ rfl
/-- OPTION_CLEAR has no frame. -/
theorem optionClear : Statement .optionClear := of_none _ rfl
/-- SET_WINDOW has no frame. -/
theorem setWindow : Statement .setWindow := of_none _ rfl
/-- SET_CLOCK has no frame. -/
theorem setClock : Statement .setClock := of_none _ rfl
/-- LOAD_BEGIN has no frame. -/
theorem loadBegin : Statement .loadBegin := of_none _ rfl
/-- LOAD_ITEMS has no frame. -/
theorem loadItems : Statement .loadItems := of_none _ rfl
/-- LOAD_END has no frame. -/
theorem loadEnd : Statement .loadEnd := of_none _ rfl
/-- LOAD_END_CHECK_DONE has no frame. -/
theorem loadEndCheckDone : Statement .loadEndCheckDone := of_none _ rfl
/-- LOAD_ABORT has no frame. -/
theorem loadAbort : Statement .loadAbort := of_none _ rfl
/-- UNLOAD has no frame. -/
theorem unload : Statement .unload := of_none _ rfl
/-- RECOUNT has no frame. -/
theorem recount : Statement .recount := of_none _ rfl
/-- CLOSE_SEGMENT has no frame. -/
theorem closeSegment : Statement .closeSegment := of_none _ rfl
/-- QUERY_SEGMENT has no frame. -/
theorem querySegment : Statement .querySegment := of_none _ rfl
/-- QUERY_ITEM has no frame. -/
theorem queryItem : Statement .queryItem := of_none _ rfl
/-- QUERY_ITEM_HOLD_CLEARED has no frame. -/
theorem queryItemHoldCleared : Statement .queryItemHoldCleared := of_none _ rfl
/-- LOAD_WEIGHTS has no frame. -/
theorem loadWeights : Statement .loadWeights := of_none _ rfl
/-- READ_NOTICES has no frame. -/
theorem readNotices : Statement .readNotices := of_none _ rfl
/-- RESTART_COUNT has no frame. -/
theorem restartCount : Statement .restartCount := of_none _ rfl
/-- RESTART_COUNT_COMPLETE has no frame. -/
theorem restartCountComplete : Statement .restartCountComplete := of_none _ rfl
/-- RESET has no frame. -/
theorem reset : Statement .reset := of_none _ rfl
/-- RESET_COMPLETE has no frame. -/
theorem resetComplete : Statement .resetComplete := of_none _ rfl
/-- UNKNOWN_REQUEST has no frame. -/
theorem unknownRequest : Statement .unknownRequest := of_none _ rfl
/-- The frame of REQUEST fits. -/
theorem request (tag : Byte) (req : Request) : Statement (.request tag req) :=
  of_frame _ _ _ _ rfl fun h => by
    have := argumentBytes_length req h
    simp only [List.length_cons]; omega
/-- The frame of CIRC fits. -/
theorem circ (events : List WireEvent) : Statement (.circ events) :=
  of_frame _ _ _ _ rfl fun h => by
    simp only [Instr.wellFormed, Bool.and_eq_true, decide_eq_true_eq] at h
    have := flatten_length eventBytes 10 (fun e => by simp [eventBytes, be_length]) events
    simp only [List.length_cons, this]; omega
/-- The frame of LANE_MSG fits. -/
theorem laneMsg (lane : Nat) (body : List Byte) : Statement (.laneMsg lane body) :=
  of_frame _ _ _ _ rfl fun h => by
    simp only [Instr.wellFormed, Bool.and_eq_true, decide_eq_true_eq] at h; simp; omega
/-- The frame of LANE_UP fits. -/
theorem laneUp (lane : Nat) : Statement (.laneUp lane) :=
  of_frame _ _ _ _ rfl fun h => by simp
/-- The frame of LANE_DOWN fits. -/
theorem laneDown (lane : Nat) : Statement (.laneDown lane) :=
  of_frame _ _ _ _ rfl fun h => by simp
/-- The frame of ENTER_FRAME fits. -/
theorem enterFrame (lane rel : Nat) : Statement (.enterFrame lane rel) :=
  of_frame _ _ _ _ rfl fun h => by simp [be_length]
/-- The frame of LEAVE_FRAME fits. -/
theorem leaveFrame (lane : Nat) : Statement (.leaveFrame lane) :=
  of_frame _ _ _ _ rfl fun h => by simp
/-- The frame of SIGHT_FRAME fits. -/
theorem sightFrame (lane : Nat) (sightings : List WireSighting) : Statement (.sightFrame lane sightings) :=
  of_frame _ _ _ _ rfl fun h => by
    simp only [Instr.wellFormed, Bool.and_eq_true, decide_eq_true_eq] at h
    have := flatten_length sightingBytes 11 (fun w => by simp [sightingBytes, be_length]) sightings
    simp only [List.length_cons, this]; omega
/-- FRAME_DISCARD has no frame. -/
theorem frameDiscard (port : Port) (what : Received) : Statement (.frameDiscard port what) := of_none _ rfl
/-- DRAIN_ENTER has no frame. -/
theorem drainEnter : Statement .drainEnter := of_none _ rfl
/-- DRAIN_SIGHT has no frame. -/
theorem drainSight : Statement .drainSight := of_none _ rfl
/-- DRAIN_LEAVE has no frame. -/
theorem drainLeave : Statement .drainLeave := of_none _ rfl
/-- REEVALUATE_PENDING_ENTER has no frame. -/
theorem reevaluatePendingEnter : Statement .reevaluatePendingEnter := of_none _ rfl
/-- DWELL_TIMEOUT has no frame. -/
theorem dwellTimeout (lane : Fin 8) : Statement (.dwellTimeout lane) := of_none _ rfl
/-- CAMPAIGN_CLOCK_TICK has no frame. -/
theorem campaignClockTick : Statement .campaignClockTick := of_none _ rfl
/-- SETTLE_FREEZE has no frame. -/
theorem settleFreeze : Statement .settleFreeze := of_none _ rfl
/-- SETTLE_ESTIMATES has no frame. -/
theorem settleEstimates : Statement .settleEstimates := of_none _ rfl
/-- SETTLE_RESOLUTION has no frame. -/
theorem settleResolution : Statement .settleResolution := of_none _ rfl
/-- SETTLE_ORDER_CHAIN has no frame. -/
theorem settleOrderChain : Statement .settleOrderChain := of_none _ rfl
/-- SETTLE_RESULT_WRITE has no frame. -/
theorem settleResultWrite : Statement .settleResultWrite := of_none _ rfl
/-- SETTLE_RESUME has no frame. -/
theorem settleResume : Statement .settleResume := of_none _ rfl
/-- SETTLE_SWEEP_ITEM has no frame. -/
theorem settleSweepItem : Statement .settleSweepItem := of_none _ rfl
/-- SETTLE_SUMMARY has no frame. -/
theorem settleSummary : Statement .settleSummary := of_none _ rfl
/-- SETTLE_RELEASE has no frame. -/
theorem settleRelease : Statement .settleRelease := of_none _ rfl
/-- DEFERRED_SCAN has no frame. -/
theorem deferredScan : Statement .deferredScan := of_none _ rfl
/-- UPSTREAM_SELECT has no frame. -/
theorem upstreamSelect : Statement .upstreamSelect := of_none _ rfl
/-- REPLY_SENT has no frame. -/
theorem replySent : Statement .replySent := of_none _ rfl
/-- NOTICE_SENT has no frame. -/
theorem noticeSent : Statement .noticeSent := of_none _ rfl
/-- FINDING_SENT has no frame. -/
theorem findingSent : Statement .findingSent := of_none _ rfl
/-- FIELD_SELECT has no frame. -/
theorem fieldSelect : Statement .fieldSelect := of_none _ rfl
/-- CONTROL_SIGNAL_SENT has no frame. -/
theorem controlSignalSent : Statement .controlSignalSent := of_none _ rfl
/-- FIELD_OUT_FRAME_SENT has no frame. -/
theorem fieldOutFrameSent : Statement .fieldOutFrameSent := of_none _ rfl
/-- LINK_DOWN has no frame. -/
theorem linkDown (port : Port) (receiving : Bool) : Statement (.linkDown port receiving) := of_none _ rfl
/-- LINK_UP has no frame. -/
theorem linkUp (port : Port) : Statement (.linkUp port) := of_none _ rfl
/-- POWER_ON has no frame. -/
theorem powerOn : Statement .powerOn := of_none _ rfl
/-- RESET_INPUT_ASSERT has no frame. -/
theorem resetInputAssert : Statement .resetInputAssert := of_none _ rfl
/-- RESET_INPUT_RELEASE has no frame. -/
theorem resetInputRelease : Statement .resetInputRelease := of_none _ rfl

end FrameFits

end Sys2Proof.Laws
end

