-- ==== Sys2Proof/Laws/Requests.lean ====
section
/-! SUPPORT. What serving the next request does, said once for requests that take no time, for refusals, and for those that
begin work. -/

namespace Sys2Proof.Machine

/-- An answered slot is not the head. -/
theorem answered_not_unanswered (x : Slot) (h : x.answered) : unanswered x = false := by
  rcases h with ⟨r, h⟩ | ⟨r, h⟩ <;> simp [unanswered, h]

variable {s : State} {before after : List Slot} {sl : Slot} {req : Request}

/-- The request next to be served (R173). -/
theorem Waiting.next (hw : Waiting s before sl after req) : nextRequest s = some req := by
  rw [nextRequest_eq s before after sl hw.slots (fun x h => answered_not_unanswered x (hw.older x h)) hw.pending, hw.request]

/-- The state on which the effect of a request that takes no time runs: its slot is IN_SERVICE. -/
abbrev served (s : State) (before : List Slot) (sl : Slot) (after : List Slot) : State := s.setSlots (before ++ { sl with state := .inService .atOnce } :: after)

/-- A request that takes no time: effect, then reply (R173). -/
theorem Waiting.serve (hw : Waiting s before sl after req) (e : State → State × Answer) (hk : (e (served s before sl after)).1.requests = (served s before sl after).requests) :
    serveNow s e = (e (served s before sl after)).1.setSlots (before ++ { sl with state := .replyReady (replyTo sl (e (served s before sl after)).2) } :: after) := by
  have hs : unanswered sl = true := by simp [unanswered, hw.pending]
  have hb := beginService_slots s before after sl .atOnce hw.slots (fun x h => answered_not_unanswered x (hw.older x h)) hs
  have := serveNow_eq s before after sl e hw.slots (fun x h => answered_not_unanswered x (hw.older x h)) hw.pending (by rw [hb]; exact hk)
  rw [this, hb]

/-- The request becomes IN_SERVICE (R173). -/
theorem Waiting.begin (hw : Waiting s before sl after req) (w : Work) : beginService s w = s.setSlots (before ++ { sl with state := .inService w } :: after) :=
  beginService_slots s before after sl w hw.slots (fun x h => answered_not_unanswered x (hw.older x h)) (by simp [unanswered, hw.pending])

/-- An answer without an effect changes the request's slot alone. -/
theorem Waiting.only (hw : Waiting s before sl after req) (e : State → State × Answer) (a : Answer)
   (he : e (served s before sl after) = (served s before sl after, a)) :
   AnswersOnly s (serveNow s e) before sl after (requestCode req) a.status a.segState a.body := by
  rw [hw.serve e (by rw [he]), he]
  refine ⟨?_, rfl⟩
  unfold Answers
  simp [replyTo, hw.request, State.setSlots]

/-- Serving a request reads the segments as they stand. -/
theorem served_segment (g) : (served s before sl after).segment g = s.segment g := rfl
/-- Serving a request reports the segment's state as it stands. -/
theorem served_stateByte (g) : segmentStateByte (served s before sl after) g = segmentStateByte s g := rfl
/-- The state byte of one of the 2,048 segments (R8). -/
theorem segmentStateByte_eq (s : State) (g : Nat) (h : g < 2048) : segmentStateByte s g = stateByte s g := by simp [segmentStateByte, stateByte, h]

/-- A refused Shelf List request (R8). -/
theorem Waiting.refuses (hw : Waiting s before sl after req) (e : State → State × Answer) (g : Nat) (st : Status) (body : ReplyBody)
   (he : e (served s before sl after) = segmentAnswer g (served s before sl after) st body) :
   Refuses s (serveNow s e) before sl after (requestCode req) st g body :=
  ⟨_, segmentStateByte_eq s g, hw.only e _ he⟩


end Sys2Proof.Machine
end

