-- ==== Sys2Proof/Laws/Settle.lean ====
section
/-! SUPPORT. What the resumption of a STALLED engine does, case by case, and which contexts a status section reports. -/

namespace Sys2Proof.Machine

/-- An engine that keeps no finding is not resumed (R116). -/
theorem resumeEngine_running (s : State) (h : ∀ w f, s.settle.engine = .settling w → w.kept ≠ some f) :
    resumeEngine s = s := by
  unfold resumeEngine
  split
  · rename_i w hw
    split
    · rename_i f hf; exact absurd hf (h w f hw)
    · rfl
  · rfl

/-- Above FQ_RESUME nothing is resumed (R116). -/
theorem resumeEngine_above (s : State) (w : Settle) (f : Finding) (hw : s.settle.engine = .settling w)
    (hf : w.kept = some f) (h : s.opts.fqResume < s.findq.records.length) : resumeEngine s = s := by
  simp only [resumeEngine, hw, hf, if_neg (Nat.not_le.mpr h)]

/-- A kept SEGMENT_SETTLED is pushed, and the summary goes on with the cue and the release (R116, R121). -/
theorem resumeEngine_settled (s : State) (w : Settle) (f : Finding) (rs : List Ruling)
    (hw : s.settle.engine = .settling w) (hf : w.kept = some f) (h : s.findq.records.length ≤ s.opts.fqResume)
    (hk : f.kind = .segmentSettled) (hs : w.stage = .summary rs) :
    resumeEngine s =
      afterSummary (appendSettle (withEdges s fun s => s.setSettle { w with kept := none }) f)
        { w with kept := none } rs := by
  simp only [resumeEngine, hw, hf, if_pos h, hk, hs]

/-- Any other kept finding is pushed, and the settle goes on at the stage that stands (R116). -/
theorem resumeEngine_other (s : State) (w : Settle) (f : Finding) (hw : s.settle.engine = .settling w)
    (hf : w.kept = some f) (h : s.findq.records.length ≤ s.opts.fqResume)
    (hk : f.kind ≠ .segmentSettled ∨ ∀ rs, w.stage ≠ .summary rs) :
    resumeEngine s = appendSettle (withEdges s fun s => s.setSettle { w with kept := none }) f := by
  simp only [resumeEngine, hw, hf, if_pos h]
  split
  · rename_i rs h1 h2
    rcases hk with hk | hk
    · exact absurd h1 hk
    · exact absurd h2 (hk rs)
  · rfl

/-- The contexts a status section reports are those in use among its own, each with its number (R84). -/
theorem mem_contextsInUse (s : State) (test : Fin 16 → Bool) (c : Fin 16) (ctx : Context) :
    (c, ctx) ∈ contextsInUse s test ↔ test c = true ∧ s.context c = some ctx := by
  have all : c ∈ contextsInOrder := by revert c; decide
  simp only [contextsInUse, List.mem_filterMap]
  constructor
  · rintro ⟨d, _, h⟩
    split at h
    · rename_i ht
      cases hd : s.context d with
      | none => simp [hd] at h
      | some x => simp only [hd, Option.map_some, Option.some.injEq, Prod.mk.injEq] at h; obtain ⟨rfl, rfl⟩ := h; exact ⟨ht, hd⟩
    · simp at h
  · rintro ⟨ht, hc⟩
    exact ⟨c, all, by simp [ht, hc]⟩

end Sys2Proof.Machine
end

