-- ==== Sys2Proof/Laws/Wire.lean ====
section
/-! SUPPORT. What the operations of Machine/Wire.lean write, in the words of Safety.lean: bytes, flags, optional fields, the
check and the frame (R158, R159, 9.7). -/

namespace Sys2Proof.Machine

/-- Bytes most significant first, written place by place. -/
theorem be_eq_wide (k x : Nat) : be k x = wide k x := by
  induction k generalizing x with
  | zero => rfl
  | succ k ih =>
    simp only [be, ih, wide, List.range_succ, List.map_append, List.map_cons, List.map_nil]
    congr 1
    · apply List.map_congr_left
      intro j hj
      rw [List.mem_range] at hj
      rw [Nat.div_div_eq_div_mul]
      congr 1
      have : k + 1 - 1 - j = (k - 1 - j) + 1 := by omega
      rw [this, Nat.pow_succ, Nat.mul_comm]
    · simp

/-- An optional field of a reply (9.7.5). -/
theorem optional_eq_maybe (k : Nat) (x : Option (List Byte)) : optional k x = maybe k x := by
  cases x with
  | some b => rfl
  | none =>
    simp only [optional, maybe, be_eq_wide]
    have : wide k 0 = List.replicate k 0 := by
      unfold wide; simp only [Nat.zero_div]; exact List.map_const' (l := List.range k) .. |>.trans (by simp)
    rw [this]; rfl

/-- A flag is one byte (9.7.5). -/
theorem flagByte_eq_flag (b : Bool) : flagByte b = flag b := by cases b <;> rfl

/-- An option word's value (9.7.5). -/
theorem signed4_eq_wideSigned (x : Int) : signed4 x = wideSigned 4 x := by
  simp only [signed4, wideSigned, be_eq_wide, BitVec.toNat_ofInt]; rfl

/-- An RSSI (9.7.5). -/
theorem signed1_eq_wideSigned (x : Int) : signed1 x = wideSigned 1 x := by
  simp [signed1, wideSigned, wide, List.range_succ]
  apply BitVec.eq_of_toNat_eq
  rw [BitVec.toNat_ofInt, BitVec.toNat_ofNat]
  omega

/-- One bit of the check (R159). -/
theorem crcBit_toNat (r : BitVec 16) (b : Bool) : (crcBit r b).toNat = registerAfter r.toNat b.toNat := by
  have hs : (r <<< 1).toNat = 2 * r.toNat % 65536 := by rw [BitVec.toNat_shiftLeft, Nat.shiftLeft_eq]; omega
  have hm : r.msb = decide (32768 ≤ r.toNat) := by rw [BitVec.msb_eq_decide]
  have := r.isLt
  unfold crcBit registerAfter
  rw [hm]
  by_cases h : 32768 ≤ r.toNat
  · have h1 : r.toNat / 32768 = 1 := by omega
    cases b <;> simp [h, h1, BitVec.toNat_xor, hs]
  · have h1 : r.toNat / 32768 = 0 := by omega
    cases b <;> simp [h, h1, BitVec.toNat_xor, hs]

/-- A bit of a byte is its place's digit. -/
theorem getLsbD_toNat_eq_digit (b : Byte) (i : Nat) : (b.getLsbD i).toNat = b.toNat / 2^i % 2 := by
  rw [BitVec.getLsbD, Nat.testBit_eq_decide_div_mod_eq]
  have : b.toNat / 2^i % 2 < 2 := Nat.mod_lt _ (by decide)
  by_cases h : b.toNat / 2^i % 2 = 1 <;> simp [h]; omega

/-- One byte of the check, most significant bit first (R159). -/
theorem crcByte_toNat (r : BitVec 16) (b : Byte) : (crcByte r b).toNat = (bitsOf b).foldl registerAfter r.toNat := by
  simp only [crcByte, bitsOf, List.foldl_cons, List.foldl_nil, List.map_cons, List.map_nil, crcBit_toNat, getLsbD_toNat_eq_digit]

/-- The check over bytes is that over their bits (R159). -/
theorem foldl_crcByte_toNat (bs : List Byte) (r : BitVec 16) : (bs.foldl crcByte r).toNat = (bs.flatMap bitsOf).foldl registerAfter r.toNat := by
  induction bs generalizing r with
  | nil => rfl
  | cons b bs ih => simp only [List.foldl_cons, ih, crcByte_toNat, List.flatMap_cons, List.foldl_append]

/-- What `frameBytes` gives: class, length, payload and the check over them (R158, R159). -/
theorem frameBytes_eq_sentFrame (c : Nat) (p : List Byte) : frameBytes c p = sentFrame c p := by
  simp only [frameBytes, sentFrame, be_eq_wide, crc16, foldl_crcByte_toNat, checkOf]; rfl

/-- The eleven tallies, each in two bytes (R120). -/
theorem tallyBytes_eq_elevenTallies (t : Tallies) : tallyBytes t = elevenTallies t := by
  simp [tallyBytes, elevenTallies, be_eq_wide]

/-- The fields of a finding by presence bit (9.7.6). -/
theorem findingFields_eq_presentFields (f : Finding) : findingFields f = presentFields f := by
  have hb : be = wide := funext fun k => funext (be_eq_wide k)
  have hs : signed1 = wideSigned 1 := funext signed1_eq_wideSigned
  have ht : tallyBytes = elevenTallies := funext tallyBytes_eq_elevenTallies
  simp only [findingFields, presentFields, hb, hs, ht]

/-- The present fields of a list, in order. -/
theorem flatten_filterMap_id (l : List (Option (List Byte))) : (l.filterMap id).flatten = l.flatMap (fun x => x.getD []) := by
  induction l with
  | nil => rfl
  | cons a l ih => cases a <;> simp [← ih]

/-- A number by its bits is the sum of the places that are set. -/
theorem bitsToNat_eq_sum (l : List Bool) : bitsToNat l = ((List.range l.length).map fun k => if l[k]? = some true then 2^k else 0).sum := by
  induction l with
  | nil => rfl
  | cons b l ih =>
    rw [List.length_cons, List.range_succ_eq_map, List.map_cons, List.map_map, List.sum_cons, bitsToNat, ih]
    congr 1
    · cases b <;> simp
    · rw [← List.sum_map_mul_left]
      congr 1
      apply List.map_congr_left
      intro k _
      simp [Nat.pow_succ, Nat.mul_comm]

end Sys2Proof.Machine
end

