-- ==== Sys2Proof/Tests/Slice0.lean ====
section
/-! SUPPORT. Tests against the reference's worked figures, the refusals of WellFormed, and for each statement with hypotheses a
state that meets them (the theorems test_hyp_…). -/

namespace Sys2Proof.Tests

open Sys2Proof Sys2Proof.Machine

/-! ### Worked figures of the reference -/

/-- R159: over the characters "123456789" the CRC register ends at 0x29B1. -/
theorem test_crc_check_value :
    crc16 [0x31, 0x32, 0x33, 0x34, 0x35, 0x36, 0x37, 0x38, 0x39] = 0x29B1 := by decide +kernel

/-- Section 5.2.1: band 8 and the ends of the range under the default knots. -/
theorem test_weights_default :
    [-60, -59, -58, -57, -56, -55].map (weight defaultKnots) = [80, 90, 99, 109, 118, 128] ∧
      [-21, -20, -99, -97].map (weight defaultKnots) = [2970, 3200, 1, 2] := by decide

/-- Section 5.2.1: a falling band, with knot 8 at 100 and knot 9 at 52. -/
theorem test_weights_falling :
    [-60, -59, -58, -57, -56, -55].map (weight ((defaultKnots.set 8 100).set 9 52)) = [100, 90, 81, 71, 62, 52] := by
  decide

/-- Sections 5.6.1 to 5.6.3: estimates of 418, 1,207, 101 and 100 mm, and none for W = 0. -/
theorem test_estimates :
    [positionEstimate 234 97796, positionEstimate 280 338000, positionEstimate 256 25728, positionEstimate 246 24718,
      positionEstimate 0 0] = [some 418, some 1207, some 101, some 100, none] := by decide

/-- R71, R95 and section 5.6.5: the sighting that brings the count to 65,535 is counted in full, the next is not. -/
theorem test_saturated_observation :
    let o : Observation := { tag := 1, item := none, count := 65534, w := 3000000, p := 1500000000, peak := -38,
                             firstTime := 0, lastTime := 0 }
    let a := mergeSighting defaultKnots o (-40) (some 900) 5
    let b := mergeSighting defaultKnots a (-30) (some 3000) 6
    (a.count, a.w, a.p, a.peak) = (65535, 3000512, 1500460800, -38) ∧
      (b.count, b.w, b.p, b.peak, b.lastTime) = (65535, 3000512, 1500460800, -30, 6) := by decide

/-- Section 6.11: the order chain of segment 412 is A, B, C, E, G, H, and D should follow C. -/
theorem test_order_chain_412 :
    let cs : List Candidate := [⟨40, 100, 5120⟩, ⟨95, 110, 5121⟩, ⟨150, 130, 5123⟩, ⟨210, 120, 5122⟩,
      ⟨260, 140, 5124⟩, ⟨330, 160, 5126⟩, ⟨380, 170, 5127⟩]
    (orderChain cs).reverse.map (·.item) = [5120, 5121, 5122, 5124, 5126, 5127] ∧
      shouldFollow (orderChain cs) 130 = some 5122 ∧ shouldFollow (orderChain cs) 90 = none := by decide

/-- Section 10.2.1: the worked writes. -/
theorem test_option_writes :
    let o1 := storeOption {} .laneAF 70
    let o2 := storeOption o1 .laneAF 10
    let o3 := storeOption o2 .laneAE 25
    (o1.laneAF, o1.laneAE) = (60, 16) ∧ (o2.laneAF, o2.laneAE) = (10, 9) ∧ o3.laneAE = 9 ∧
      (storeOption {} (.dwell 4) (setBits 3000 65536)).dwell[4] = 60000 ∧ clearBits 6 2 = 4 ∧ setBits (-58) 1 = -57 ∧
      (storeOption {} .noticeFall (-1)).noticeFall = BitVec.allOnes 21 := by decide

/-- Section 1.6.2: first fit on a table full but for three stretches of 300, 300 and 200 slots (three long runs stand for
the many of the section). -/
theorem test_first_fit :
    let run (first count : Nat) : Segment :=
      { phase := .ready, twin := none, firstItem := first, itemCount := count, countNumber := 0, last := none }
    let segs := [(0, run 0 12000), (1, run 12300 27700), (2, run 40300 25036)]
    firstFit segs 512 = none ∧ firstFit segs 250 = some 12000 ∧ longestFree segs = 300 ∧ countFree segs = 800 ∧
      (let segs := [(0, run 0 12000), (2, run 40300 25036), (3, run 12000 250)]
       firstFit segs 512 = some 12250 ∧ longestFree segs = 28050 ∧ countFree segs = 28250) := by decide

/-- R126 to R131: a CHECKOUT of a MISSING item leaves it ON_LOAN and ACCOUNTED, with the event's arrival time. -/
theorem test_checkout_accounts :
    let it : Item := { tag := 7, rank := 1, home := 3, status := .onShelf, statusTime := none, result := .missing,
                       placed := none, estimate := none, stamp := none, hold := false }
    appliedItem { kind := .checkout, tag := 7, status := none, arrival := 9 } it =
      { it with status := .onLoan, statusTime := some 9, result := .accounted } := by decide

/-- A LANE_UP frame for lane 3 and an ENTER for lane 2 with relative segment 0x0102, written out byte by byte from 9.7.1 and
9.7.2, are what the Field Port reads; a wrong check byte is refused (R160). -/
theorem test_receive_field :
    receive .field ([0x01, 0x01, 0x03] ++ be 2 (crc16 [0x01, 0x01, 0x03]).toNat) = some (.laneUp 3) ∧
      receive .field ([0x03, 0x03, 0x02, 0x01, 0x02] ++ be 2 (crc16 [0x03, 0x03, 0x02, 0x01, 0x02]).toNat) =
        some (.enterFrame 2 0x0102) ∧
      receive .field [0x01, 0x01, 0x03, 0x00, 0x00] = none := by decide +kernel

/-- A REQUEST frame with tag 0x5A and kind SET_WINDOW, lane 4, window 0x0190 to 0x01F4 (9.7.3, 9.7.4). -/
theorem test_receive_trunk :
    let body : List Byte := [0x21, 0x07, 0x5A, 0x04, 0x04, 0x01, 0x90, 0x01, 0xF4]
    receive .trunk (body ++ be 2 (crc16 body).toNat) = some (.request 0x5A (.setWindow 4 400 500)) := by decide +kernel

/-! ### WellFormed refuses -/

theorem test_wf_event_count : (Instr.circ []).wellFormed = false := by decide
theorem test_wf_event_field : (Instr.circ [{ kind := 256, status := 0, tag := 0 }]).wellFormed = false := by decide
theorem test_wf_message_lane : (Instr.laneMsg 8 []).wellFormed = false := by decide
theorem test_wf_message_length : (Instr.laneMsg 0 (List.replicate 240 0)).wellFormed = false := by decide +kernel
theorem test_wf_lane :
    ([.laneUp 8, .laneDown 8, .enterFrame 8 0, .leaveFrame 8, .sightFrame 8 []] : List Instr).all
      (fun i => !i.wellFormed) = true := by decide
theorem test_wf_relative_segment : (Instr.enterFrame 0 2048).wellFormed = false := by decide
theorem test_wf_sighting_count : (Instr.sightFrame 0 []).wellFormed = false := by decide
theorem test_wf_sighting_position :
    (Instr.sightFrame 0 [{ tag := 1, rssi := 0, positioned := true, position := 4096 }]).wellFormed = false ∧
      (Instr.sightFrame 0 [{ tag := 1, rssi := 0, positioned := false, position := 32768 }]).wellFormed = false := by
  decide
theorem test_wf_request_bytes :
    ([.readStatus 256, .option 256 0 0, .option 0 256 0, .setWindow 256 0 0, .setWindow 0 65536 0, .setWindow 0 0 65536,
      .loadBegin 65536 0 0 0, .loadBegin 0 65536 0 0, .loadBegin 0 0 256 0, .loadBegin 0 0 0 65536, .loadEnd 65536,
      .loadAbort 65536, .unload 65536, .recount 65536, .closeSegment 65536, .querySegment 65536, .queryItem 256 0] :
      List Request).all (fun r => !r.wellFormed) = true := by decide
theorem test_wf_record_count :
    (Request.loadItems 0 0 []).wellFormed = false ∧ (Request.loadItems 65536 0 [⟨0, 0, 0⟩]).wellFormed = false ∧
      (Request.loadItems 0 65536 [⟨0, 0, 0⟩]).wellFormed = false ∧
      (Request.loadItems 0 0 [⟨0, 0, 256⟩]).wellFormed = false := by decide
theorem test_wf_unknown_kind :
    (Request.unknown 0x12 []).wellFormed = false ∧ (Request.unknown 256 []).wellFormed = false ∧
      (Request.unknown 0x13 (List.replicate 239 0)).wellFormed = false := by decide +kernel

/-! ### States for the witnesses -/

/-- A waiting request. -/
def asking (req : Request) : Slot := { tag := 0x5A, request := req, arrival := 0, state := .pending }

/-- A request in service. -/
def working (req : Request) (w : Work) : Slot := { tag := 0x5A, request := req, arrival := 0, state := .inService w }

/-- s with one slot occupied. -/
def withSlot (s : State) (sl : Slot) : State := { s with requests := { slots := [sl], discards := 0 } }

/-- A request alone in the queue is next to be served. -/
theorem waits (s : State) (req : Request) : Waiting (withSlot s (asking req)) [] (asking req) [] req :=
  ⟨rfl, by simp, rfl, rfl⟩

/-- A request alone in the queue is in service. -/
theorem works (s : State) (req : Request) (w : Work) : InWork (withSlot s (working req w)) [] (working req w) [] req w :=
  ⟨rfl, by simp, rfl, rfl⟩

/-- Segment 5, with two items in slots 0 and 1. -/
def seg5 (p : Phase) : Segment :=
  { phase := p, twin := none, firstItem := 0, itemCount := 2, countNumber := 0, last := none }

/-- An item of segment 5. -/
def book (tag : Tag) (rank : Rank) (hold : Bool) : Item :=
  { tag := tag, rank := rank, home := 5, status := .onShelf, statusTime := none, result := .uncounted, placed := none,
    estimate := none, stamp := none, hold := hold }

/-- The floor with segment 5 alone, its items indexed and held or not. -/
def floor (p : Phase) (hold : Bool) : State :=
  { State.reset with
    store := { segments := [(5, seg5 p)], items := [(0, book 10 100 hold), (1, book 11 110 hold)],
               tagIndex := [(10, 0), (11, 1)], freeCount := 65534, largestFree := 65534 } }

theorem floor_segment (p : Phase) (hold : Bool) (g : Nat) (r : Segment) (h : (floor p hold).segment g = some r) :
    g = 5 ∧ r = seg5 p := by
  simp only [State.segment, floor, tget] at h
  split at h
  · rename_i e; exact ⟨e, by simpa using h.symm⟩
  · simp at h

/-- The floor's tables are in their form. -/
theorem floor_tables (p : Phase) (hold : Bool) (sl : Slot) : TablesOk (withSlot (floor p hold) sl) :=
  ⟨by simp [withSlot, floor, Table.wf], by simp [withSlot, floor, Table.wf], by simp [withSlot, floor, Table.wf]⟩

/-- The floor's runs are sound. -/
theorem floor_runs (p : Phase) (hold : Bool) (sl : Slot) : RunsOk (withSlot (floor p hold) sl) where
  numbers g r h := by obtain ⟨rfl, _⟩ := floor_segment p hold g r h; decide
  counts g r h := by obtain ⟨_, rfl⟩ := floor_segment p hold g r h; exact ⟨by simp [seg5], by simp [seg5]⟩
  inside g r h := by obtain ⟨_, rfl⟩ := floor_segment p hold g r h; simp [seg5]
  apart g h r q i hg hh _ _ := by
    obtain ⟨rfl, _⟩ := floor_segment p hold g r hg; obtain ⟨rfl, _⟩ := floor_segment p hold h q hh; rfl
  freeCount := rfl
  largestFree := rfl

/-- The k-th of 128 runs of 512 slots. -/
def fullRun (k : Nat) : Segment :=
  { phase := .ready, twin := none, firstItem := 512 * k, itemCount := 512, countNumber := 0, last := none }

/-- A floor of 128 runs of 512 slots: no slot is free. -/
def fullFloor : State :=
  { State.reset with
    store := { segments := (List.range 128).map fun k => (k, fullRun k), items := [], tagIndex := [], freeCount := 0,
               largestFree := 0 } }

/-- Lane 0 in a mode with a queue, on the Field Link UP. -/
def laneState (s : State) (m : LaneMode) (queue : List Entry) : State :=
  { s with field := { s.field with up := true, signal := true },
           lanes := { recs := s.lanes.recs.set 0 { mode := m, queue := queue }, next := 0 } }

/-- The Field Port receives. -/
theorem laneState_receives (p : Phase) (hold : Bool) (m : LaneMode) (q : List Entry) :
    Receives (laneState (floor p hold) m q) .field := ⟨rfl, rfl, by simp [laneState, floor, State.reset]⟩

/-- A context for segment 5 with the observations given. -/
def ctx5 (ph : ContextPhase) (os : List Observation) : Context :=
  { segment := 5, phase := ph, prior := .ready, openTime := 0, truncated := false, capDiscards := 0,
    poolDiscards := 0, observations := os }

/-- s with context 0 in use. -/
def withContext (s : State) (c : Context) : State :=
  { s with pool := { contexts := (Vector.replicate 16 none).set 0 (some c), freeSlots := 4096 - c.observations.length } }

/-- Lane 0 counts segment 5 in context 0. -/
def countingState (dwell : Option Nat) (queue : List Entry) : State :=
  withContext (laneState (floor (.counting 0) false) (.inSegment 5 dwell) queue) (ctx5 (.opened 0) [])

/-- The lane of the counting state counts. -/
theorem countingState_counts (dwell : Option Nat) (queue : List Entry) :
    CountsIn (countingState dwell queue) 0 5 0 (ctx5 (.opened 0) []) :=
  ⟨⟨dwell, rfl⟩, ⟨rfl, rfl, ⟨seg5 (.counting 0), rfl, rfl⟩⟩, rfl⟩

/-- Lane 0, alone eligible, is served next. -/
theorem serves (s : State) (h1 : s.requests.slots = []) (h2 : s.lanes.next = 0) (h3 : Eligible s 0) : ServesNext s 0 where
  notStopped := by simp [h1]
  eligible := h3
  first k hk := by rw [h2] at hk; simp at hk

/-- An observation of the item in slot 0. -/
def seen : Observation :=
  { tag := 10, item := some 0, count := 1, w := 128, p := 12800, peak := -50, firstTime := 0, lastTime := 1 }

/-- Segment 5 in settle at a stage. -/
def settleWork (stage : Stage) (kept : Option Finding) : Settle :=
  { segment := 5, xread := -58, revise := 6, stage := stage, tallies := {}, kept := kept }

/-- Segment 5 in settle: context 0 CLOSED with one observation. -/
def settlingState (stage : Stage) (kept : Option Finding) : State :=
  { withContext (laneState (floor (.settling 0) true) .idle []) (ctx5 (.closed 0 .leave) [seen]) with
    settle := { queue := [], engine := .settling (settleWork stage kept) } }

/-- The engine is RUNNING in that settle. -/
theorem settlingState_settles (stage : Stage) :
    Settles (settlingState stage none) (settleWork stage none) (seg5 (.settling 0)) 0
      (ctx5 (.closed 0 .leave) [seen]) :=
  ⟨rfl, rfl, rfl, rfl, rfl⟩

/-- The ruling of the observation with a verdict. -/
def ruled (v : Verdict) : Ruling := { observation := seen, estimate := some 100, verdict := v }

/-! ### The hypotheses of the statements -/

theorem test_hyp_StepRunsTheFrontCommand :
    ({ State.reset with pending := [.powerOn, .replySent] } : State).pending = .powerOn :: [.replySent] ∧
      State.reset.pending = [] := by decide

theorem test_hyp_ConfigurationChangesOnlyAtItsOwnCommands :
    ∃ t, exec .campaignClockTick State.reset = .next t ∧ t.clock.value = 1 := ⟨_, rfl, rfl⟩

theorem test_hyp_LatchesStayUntilRead :
    ∃ t, exec .campaignClockTick { State.reset with notices := { latches := 1, waiting := false } } = .next t ∧
      t.notices.latches = 1 := ⟨_, rfl, rfl⟩

/-- A rising edge of POOL_LOW, and a falling edge of SETTLE_STALLED whose enable is clear (R183). -/
theorem test_hyp_EdgesSetLatches :
    let change (s : State) : State :=
      { s with pool := { s.pool with freeSlots := 255 }, clock := { s.clock with set := true } }
    (change State.reset).notices = State.reset.notices ∧
      (withEdges State.reset change).notices = { latches := 0x40000, waiting := true } := by decide +kernel

/-- A command's own edge: LANE_UP sets LANE_ATTACHED of lane 0 with its rising edge enabled. -/
theorem test_hyp_EdgesSetLatches_command :
    let s : State := { laneState State.reset .detached [] with opts := { State.reset.opts with noticeRise := 1 } }
    ∃ t, exec (.laneUp 0) s = .next t ∧ (liveConditions s).getLsbD 0 = false ∧ (liveConditions t).getLsbD 0 = true ∧
      t.opts.noticeRise.getLsbD 0 = true ∧ t.notices = { latches := 1, waiting := true } :=
  ⟨_, rfl, by decide +kernel, by decide +kernel, by decide +kernel, by decide +kernel⟩

/-- A tick is a step from the state after reset with one command waiting. -/
theorem test_hyp_step : ∃ t, step { State.reset with pending := [.campaignClockTick] } = .next t := ⟨_, rfl⟩

theorem test_hyp_StepConservesObservationSlots : PoolOk { State.reset with pending := [.campaignClockTick] } :=
  ⟨by decide +kernel, by decide +kernel⟩

theorem test_hyp_StepKeepsQueuesAndOptionsInRange :
    QueuesOk { State.reset with pending := [.campaignClockTick] } ∧ OptionsOk State.reset.opts :=
  ⟨⟨by decide, by decide, by decide, by decide, by decide⟩,
    ⟨by decide, by decide, by decide, by decide, by decide, by decide, by decide, by decide⟩⟩

theorem test_hyp_StepKeepsTalliesInRange : TalliesOk { State.reset with pending := [.campaignClockTick] } :=
  ⟨by decide, by decide, by decide, by decide, by decide⟩

theorem test_hyp_StepKeepsRunsApart :
    TablesOk (withSlot (floor .ready false) (asking .identify)) ∧ RunsOk (withSlot (floor .ready false) (asking .identify)) :=
  ⟨floor_tables _ _ _, floor_runs _ _ _⟩

/-- The counting state is bound as R24 and R66 say: one lane, one context, one segment. -/
theorem counting_bound : ClaimsOk (countingState none []) ∧ SettleOk (countingState none []) := by
  have seg : ∀ g r, (countingState none []).segment g = some r → g = 5 ∧ r = seg5 (.counting 0) :=
    fun g r h => floor_segment (.counting 0) false g r h
  have lane : ∀ l : Fin 8, (countingState none []).lane l = if l = 0 then { mode := .inSegment 5 none } else {} := by
    decide +kernel
  have ctx : ∀ c : Fin 16, (countingState none []).context c = if c = 0 then some (ctx5 (.opened 0) []) else none := by
    decide +kernel
  have counts : ∀ g c, countsIn (countingState none []) g c → g = 5 ∧ c = 0 := by
    rintro g c ⟨r, hr, hp⟩
    obtain ⟨rfl, rfl⟩ := seg g r hr
    exact ⟨rfl, (Phase.counting.inj hp).symm⟩
  have settles : ∀ g c, ¬ settlesIn (countingState none []) g c := by
    rintro g c ⟨r, hr, hp⟩
    obtain ⟨_, rfl⟩ := seg g r hr
    simp [seg5] at hp
  have self : countsIn (countingState none []) 5 0 := ⟨_, rfl, rfl⟩
  refine ⟨⟨?_, ?_, ?_, ?_, ?_⟩, ⟨by decide, ?_, ?_, ?_⟩⟩
  · intro l g d h
    rw [lane] at h
    split at h
    · rename_i e
      obtain ⟨rfl, _⟩ := LaneMode.inSegment.inj h
      exact ⟨0, _, self, rfl, rfl, by rw [e]; rfl⟩
    · simp at h
  · intro c x l hc hp
    rw [ctx] at hc
    split at hc
    · rename_i e
      subst e
      obtain rfl := Option.some.inj hc
      obtain rfl : (0 : Fin 8) = l := ContextPhase.opened.inj hp
      exact ⟨self, none, rfl⟩
    · simp at hc
  · intro c x l cause hc hp
    rw [ctx] at hc
    split at hc
    · obtain rfl := Option.some.inj hc
      simp [ctx5] at hp
    · simp at hc
  · intro g c h
    obtain ⟨rfl, rfl⟩ := counts g c h
    exact ⟨_, 0, rfl, rfl, rfl⟩
  · intro g c h; exact absurd h (settles g c)
  · intro g
    constructor
    · intro h; simp [countingState, withContext, laneState, floor, State.reset, inSettleList] at h
    · rintro ⟨c, h⟩; exact absurd h (settles g c)
  · intro _; rfl
  · intro h; simp [countingState, withContext, laneState, floor, State.reset] at h

theorem test_hyp_StepKeepsClaimsBound : TablesOk (countingState none []) ∧ ClaimsOk (countingState none []) ∧
    SettleOk (countingState none []) :=
  ⟨floor_tables (.counting 0) false (asking .identify) |> fun h => ⟨h.segments, h.items, h.tagIndex⟩,
    counting_bound.1, counting_bound.2⟩

theorem test_hyp_SettleQueueNeverOverflows : ∃ s, ClaimsOk s ∧ SettleOk s := ⟨_, counting_bound⟩

/-- R89 at both ends of the range and inside band 8, and at the top where there is no higher knot. -/
theorem test_hyp_WeightIsNearestInterpolation :
    ((-58 + 100 : Int).toNat = 5 * 8 + 2 ∧ (defaultKnots.toList[8]?).map BitVec.toNat = some 80 ∧
        (defaultKnots.toList[8 + 1]?).map BitVec.toNat = some 128) ∧
      ((-100 + 100 : Int).toNat = 5 * 0 + 0 ∧ (defaultKnots.toList[0]?).map BitVec.toNat = some 1) ∧
      ((-20 + 100 : Int).toNat = 5 * 16 + 0 ∧ (defaultKnots.toList[16]?).map BitVec.toNat = some 3200) := by decide

theorem test_hyp_EstimateLiesBetweenPositions :
    (∀ x ∈ [((80 : Nat), (1200 : Nat)), (200, 1210)], 0 < x.1 ∧ 1200 ≤ x.2 ∧ x.2 ≤ 1210) ∧
      positionEstimate ([((80 : Nat), (1200 : Nat)), (200, 1210)].map fun x => x.1).sum
        ([((80 : Nat), (1200 : Nat)), (200, 1210)].map fun x => x.1 * x.2).sum = some 1207 := by decide

/-- Two longest chains, of which the later middle is picked; of two chain members of one rank the later is followed. -/
theorem test_hyp_OrderChainIsLongest :
    let cs : List Candidate := [⟨40, 100, 0⟩, ⟨95, 130, 1⟩, ⟨150, 120, 2⟩]
    let same : List Candidate := [⟨40, 100, 0⟩, ⟨95, 100, 1⟩]
    [(⟨40, 100, 0⟩ : Candidate), ⟨150, 120, 2⟩].Sublist cs ∧
      [(⟨40, 100, 0⟩ : Candidate), ⟨150, 120, 2⟩].Pairwise (fun a b => a.rank ≤ b.rank) ∧
      orderChain cs = [⟨150, 120, 2⟩, ⟨40, 100, 0⟩] ∧
      shouldFollow (orderChain cs) 130 = some 2 ∧ shouldFollow (orderChain same) 110 = some 1 := by decide

theorem test_hyp_PortsReadTheFramesTheyAreSent :
    (Instr.leaveFrame 7).wellFormed = true ∧ arrivalFrame (.leaveFrame 7) = some (.field, frameBytes 0x05 [7]) ∧
      (Instr.request 1 (.unknown 0 [])).wellFormed = true ∧
      arrivalFrame (.request 1 (.unknown 0 [])) = some (.trunk, frameBytes 0x21 [1, 0]) := ⟨rfl, rfl, rfl, rfl⟩

theorem test_hyp_IdentifyAnswersCodesAndCapacities : ∃ s sl, Waiting s [] sl [] .identify := ⟨_, _, waits State.reset _⟩

theorem test_hyp_UnknownRequestIsAnswered : ∃ s sl, Waiting s [] sl [] (.unknown 0x13 [1]) :=
  ⟨_, _, waits State.reset _⟩

theorem test_hyp_ReadStatusReportsItsSection (n : Nat) : ∃ s sl, Waiting s [] sl [] (.readStatus n) :=
  ⟨_, _, waits State.reset _⟩

/-- Section 2 reports the one context in use with its number, in 22 bytes after the 8 of the pool's figures (R84, 9.7.5). -/
theorem test_status_contexts :
    (poolFigures (countingState none []) fun c => decide (c < 8)).contexts = [(0, ctx5 (.opened 0) [])] ∧
      (poolFigures (countingState none []) fun c => decide (8 ≤ c)).contexts = [] ∧
      bodyBytes (.pool (poolFigures (countingState none []) fun c => decide (c < 8))) =
        be 2 4096 ++ be 2 15 ++ be 2 1 ++ be 2 0 ++
          (be 1 0 ++ be 1 1 ++ be 2 5 ++ [1, 0] ++ [0, 0] ++ [0, 0] ++ be 1 2 ++ be 4 0 ++ [0] ++ be 2 0 ++ be 2 0 ++
            be 2 0) := by decide +kernel

/-- READ of the first and the last word; a refusal by operation, and one by code. -/
theorem test_hyp_OptionReadsAndRefusalsChangeNothing :
    (wordValue State.reset.opts 0x00 = some 6 ∧ wordValue State.reset.opts 0x12 = some 0) ∧
      (∀ code, ∃ sl, Waiting (withSlot State.reset sl) [] sl [] (.option 0 code 0)) ∧
      ∀ op code, ∃ sl, Waiting (withSlot State.reset sl) [] sl [] (.option op code 0) :=
  ⟨by decide, fun _ => ⟨_, waits _ _⟩, fun _ _ => ⟨_, waits _ _⟩⟩

/-- A WRITE of LANE_AF below AE, and of a word without a reaction; LANE_AF and FQ_RESUME writes that change the word, the
second under a STALLED engine. -/
theorem test_hyp_OptionWritesStoreTheComputedValue :
    OptionsOk State.reset.opts ∧ wordValue State.reset.opts 0x02 = some 48 ∧ wordValue State.reset.opts 0x0E = some (-58) ∧
      (∃ sl, Waiting (withSlot State.reset sl) [] sl [] (.option 1 0x02 10)) ∧
      (∃ sl, Waiting (withSlot State.reset sl) [] sl [] (.option 2 0x0E 1)) ∧
      (∃ t, exec .optionWrite (withSlot State.reset (asking (.option 1 0x02 10))) = .next t ∧ t.opts ≠ State.reset.opts) ∧
      ∃ t, exec .optionWrite (withSlot (settlingState (.summary []) (some { kind := .missing, time := 0 }))
          (asking (.option 1 0x0D 239))) = .next t ∧ t.opts ≠ State.reset.opts ∧ t.findq.records.length = 1 :=
  ⟨test_hyp_StepKeepsQueuesAndOptionsInRange.2, by decide, by decide, ⟨_, waits _ _⟩, ⟨_, waits _ _⟩,
    ⟨_, rfl, by decide +kernel⟩, ⟨_, rfl, by decide +kernel, by decide +kernel⟩⟩

/-- A lane that counts, its bit cleared by WRITE, by CLEAR, and by no SET. -/
theorem test_hyp_LaneEnableWriteDetachesLanes :
    (∀ op value, ∃ sl, Waiting (withSlot (countingState none []) sl) [] sl [] (.option op 0x01 value)) ∧
      ClaimsOk (countingState none []) ∧ (countingState none []).context 0 = some (ctx5 (.opened 0) []) ∧
      (countingState none []).opts.laneEnable.getLsbD 0 = true ∧ (0xFE : BitVec 32).getLsbD 0 = false ∧
      (0x01 : BitVec 32).getLsbD 0 = true :=
  ⟨fun _ _ => ⟨_, waits _ _⟩, counting_bound.1, rfl, by decide, by decide, by decide⟩

/-- The boundary windows [0, 2048) and [2048, 2048), a busy lane and a free one. -/
theorem test_hyp_SetWindowSetsAFreeLanesWindow :
    (∀ lane base limit, ∃ sl, Waiting (withSlot State.reset sl) [] sl [] (.setWindow lane base limit)) ∧
      (State.reset.lane 0).mode = .detached ∧ ((countingState none []).lane 0).mode = .inSegment 5 none ∧
      ((laneState State.reset (.waiting 0 false false) []).lane 0).mode = .waiting 0 false false :=
  ⟨fun _ _ _ => ⟨_, waits _ _⟩, by decide, by decide, by decide⟩

/-- A segment COUNTING, one SETTLING, and none. -/
theorem test_hyp_SetClockSetsTheClockUnlessCounting :
    (∃ s sl, Waiting s [] sl [] (.setClock 7) ∧ ∃ e ∈ s.store.segments, e.2.busy) ∧
      ∃ s sl, Waiting s [] sl [] (.setClock 7) ∧ ∀ e ∈ s.store.segments, ¬ e.2.busy :=
  ⟨⟨_, _, waits (floor (.counting 0) false) _, ⟨5, seg5 (.counting 0)⟩, by decide, .inl ⟨0, rfl⟩⟩,
    ⟨_, _, waits State.reset _, by simp [withSlot, State.reset]⟩⟩

theorem test_hyp_LoadWeightsReplacesAllKnotsUnlessCounting :
    (∃ s sl, Waiting s [] sl [] (.loadWeights defaultKnots) ∧ ∃ e ∈ s.store.segments, e.2.busy) ∧
      ∃ s sl, Waiting s [] sl [] (.loadWeights defaultKnots) ∧ ∀ e ∈ s.store.segments, ¬ e.2.busy :=
  ⟨⟨_, _, waits (floor (.settling 0) false) _, ⟨5, seg5 (.settling 0)⟩, by decide, .inr ⟨0, rfl⟩⟩,
    ⟨_, _, waits State.reset _, by simp [withSlot, State.reset]⟩⟩

theorem test_hyp_ReadNoticesAnswersAndClears : ∃ s sl, Waiting s [] sl [] .readNotices := ⟨_, _, waits State.reset _⟩

/-- An empty Request Queue, and a full one. -/
theorem test_hyp_RequestJoinsAFreeSlot :
    (Instr.request 0 .identify).wellFormed = true ∧
      (∃ s, Receives s .trunk ∧ s.requests.slots.length < 8) ∧ ∃ s, Receives s .trunk ∧ 8 ≤ s.requests.slots.length :=
  ⟨rfl, ⟨{ State.reset with trunk := { State.reset.trunk with up := true } }, ⟨rfl, rfl, by decide⟩, by decide⟩,
    ⟨{ State.reset with trunk := { State.reset.trunk with up := true },
                        requests := { slots := List.replicate 8 (asking .identify), discards := 0 } },
      ⟨rfl, rfl, by decide⟩, by decide⟩⟩

/-- A restart under a lane that counts, one with an event to apply, and a restart to complete. -/
theorem test_hyp_RestartCountResetsTheCount :
    (∃ s sl, Waiting s [] sl [] .restartCount) ∧
      (∃ s sl e, Waiting s [] sl [] .restartCount ∧ TalliesOk s ∧ s.circ.deferred = [] ++ e :: [] ∧
        s.lookup e.tag = some 0 ∧ s.item 0 = some (book 10 100 true)) ∧
      ∃ s sl, InWork s [] sl [] .restartCount .restart :=
  ⟨⟨_, _, waits (countingState (some 3) []) _⟩,
    ⟨withSlot { floor .ready true with circ := { State.reset.circ with
        deferred := [{ kind := .checkin, tag := 10, status := none, arrival := 1 }] } } (asking .restartCount), _,
      { kind := .checkin, tag := 10, status := none, arrival := 1 }, waits _ _,
      ⟨by decide, by decide, by decide, by decide, by decide⟩, rfl, rfl, rfl⟩,
    ⟨_, _, works State.reset _ _⟩⟩

theorem test_hyp_FullResetsLeaveTheResetState :
    (∃ s sl, Waiting s [] sl [] .reset) ∧ (∃ s sl, InWork s [] sl [] .reset .reset) ∧ State.reset.resetPin = false ∧
      ({ State.reset with resetPin := true } : State).resetPin = true :=
  ⟨⟨_, _, waits (countingState (some 3) []) _⟩, ⟨_, _, works State.reset _ _⟩, rfl, rfl⟩

/-- The full floor's table is in its form. -/
theorem full_wf : Table.wf fullFloor.store.segments := by
  simp only [Table.wf, fullFloor, List.map_map, Function.comp_def]
  simpa using List.pairwise_lt_range

/-- The segments of the full floor. -/
theorem full_segment (s : State) (h : s.store.segments = fullFloor.store.segments) (g : Nat) (r : Segment) :
    s.segment g = some r ↔ g < 128 ∧ r = fullRun g := by
  have wf := full_wf
  unfold State.segment
  rw [h, tget_eq_some _ wf]
  simp only [fullFloor, List.mem_map, List.mem_range, Prod.mk.injEq]
  constructor
  · rintro ⟨k, hk, rfl, rfl⟩; exact ⟨hk, rfl⟩
  · rintro ⟨hk, rfl⟩; exact ⟨g, hk, rfl, rfl⟩

/-- Taken at the lowest free slot, refused for a segment loaded, for a field out of range, and for want of a stretch. -/
theorem test_hyp_LoadBeginTakesTheLowestStretch :
    (∃ s sl, TablesOk s ∧ RunsOk s ∧ Waiting s [] sl [] (.loadBegin 6 511 1 2047) ∧ s.segment 6 = none ∧
      s.segment 5 ≠ none ∧ FreeAt s 2 511 ∧ ∀ k, k < 2 → ¬ FreeAt s k 511) ∧
    (∃ s sl, TablesOk s ∧ RunsOk s ∧ Waiting s [] sl [] (.loadBegin 2047 0 0 0) ∧ s.segment 2047 = none ∧
      ∀ start, ¬ FreeAt s start 512) ∧
    ∃ s sl, TablesOk s ∧ RunsOk s ∧ Waiting s [] sl [] (.loadBegin 2048 512 2 2048) := by
  refine ⟨⟨_, _, floor_tables .ready false _, floor_runs .ready false _, waits _ _, by decide, by decide, ⟨by decide, ?_⟩, ?_⟩,
    ⟨withSlot fullFloor (asking (.loadBegin 2047 0 0 0)), _, ⟨?_, by decide, by decide⟩,
      ⟨?_, ?_, ?_, ?_, by decide +kernel, by decide +kernel⟩, waits _ _, ?_, ?_⟩,
    ⟨_, _, floor_tables .ready false _, floor_runs .ready false _, waits _ _⟩⟩
  · intro i h1 h2 g r h
    obtain ⟨_, rfl⟩ := floor_segment .ready false g r h
    simp [inRun, seg5]; omega
  · rintro k hk ⟨_, h⟩
    have := h k (Nat.le_refl k) (by omega) 5 (seg5 .ready) rfl
    simp [inRun, seg5] at this; omega
  · exact full_wf
  · intro g r h; have := ((full_segment _ rfl g r).1 h).1; omega
  · intro g r h; obtain ⟨_, rfl⟩ := (full_segment _ rfl g r).1 h; simp [fullRun]
  · intro g r h; obtain ⟨_, rfl⟩ := (full_segment _ rfl g r).1 h; simp [fullRun]; omega
  · intro g h r q i hg hh hi hj
    obtain ⟨_, rfl⟩ := (full_segment _ rfl g r).1 hg
    obtain ⟨_, rfl⟩ := (full_segment _ rfl h q).1 hh
    have := of_decide_eq_true hi; have := of_decide_eq_true hj; simp only [fullRun] at *; omega
  · cases hc : (withSlot fullFloor (asking (.loadBegin 2047 0 0 0))).segment 2047 with
    | none => rfl
    | some r => have := ((full_segment _ rfl 2047 r).1 hc).1; omega
  · rintro start ⟨h1, h2⟩
    have := h2 start (Nat.le_refl _) (by omega) (start / 512) _ ((full_segment _ rfl (start / 512) _).2 ⟨by omega, rfl⟩)
    have := of_decide_eq_false this; simp only [fullRun] at this; omega

/-- The next records taken up to the item count, a rank that falls, an offset refused, and a segment not LOADING. -/
theorem test_hyp_LoadItemsWritesTheNextRecords :
    (∀ g offset records, ∃ sl, Waiting (withSlot (floor (.loading 1) false) sl) [] sl [] (.loadItems g offset records)) ∧
      (∃ r, (floor (.loading 1) false).segment 5 = some r ∧ r.phase = .loading 1 ∧ 1 + 1 ≤ r.itemCount ∧
        (∀ j, ¬ Drops (floor (.loading 1) false) r 1 [⟨20, 100, 5⟩] j) ∧
        Drops (floor (.loading 1) false) r 1 [⟨20, 99, 0⟩] 0) ∧
      (∀ r n, (floor .ready false).segment 5 = some r → r.phase ≠ .loading n) ∧
      ¬ (∀ x ∈ [(⟨20, 100, 6⟩ : WireItem)], x.status ≤ 5) := by
  refine ⟨fun _ _ _ => ⟨_, waits _ _⟩, ⟨seg5 (.loading 1), rfl, rfl, by decide, ?_, ?_⟩, ?_, by decide⟩
  · rintro j ⟨x, q, hx, hq, hlt⟩
    cases j with
    | zero =>
      obtain rfl := Option.some.inj hx
      have : some (100 : Rank) = some q := hq
      obtain rfl := Option.some.inj this
      exact absurd hlt (by decide)
    | succ j => simp at hx
  · exact ⟨⟨20, 99, 0⟩, 100, rfl, rfl, by decide⟩
  · intro r n h; obtain ⟨_, rfl⟩ := floor_segment .ready false 5 r h; simp [seg5]

/-- The check begins at loaded 2 of 2, is refused at 1; no record offends with an empty index, and slot 0 offends with its
tag indexed. -/
theorem test_hyp_LoadEndChecksForDuplicates :
    (∀ p, ∃ sl, Waiting (withSlot (floor p false) sl) [] sl [] (.loadEnd 5)) ∧
      (floor (.loading 1) false).segment 5 = some (seg5 (.loading 1)) ∧
      (floor (.loading 2) false).segment 5 = some (seg5 (.loading 2)) ∧
      (∃ s sl, InWork s [] sl [] (.loadEnd 5) .duplicateCheck ∧ TablesOk s ∧ RunsOk s ∧
        s.segment 5 = some (seg5 (.loading 2)) ∧ Offends s (seg5 (.loading 2)) 0 ∧ s.item 0 = some (book 10 100 false)) ∧
      ∃ s sl, InWork s [] sl [] (.loadEnd 5) .duplicateCheck ∧ TablesOk s ∧ RunsOk s ∧
        s.segment 5 = some (seg5 (.loading 2)) ∧ ∀ i, ¬ Offends s (seg5 (.loading 2)) i := by
  refine ⟨fun _ => ⟨_, waits _ _⟩, rfl, rfl,
    ⟨_, _, works (floor (.loading 2) false) _ _, floor_tables _ _ _, floor_runs _ _ _, rfl,
      ⟨by decide, _, rfl, .inl ⟨0, rfl⟩⟩, rfl⟩, ?_⟩
  let s := withSlot (floor (.loading 2) false) (working (.loadEnd 5) .duplicateCheck)
  have tb := floor_tables (.loading 2) false (working (.loadEnd 5) .duplicateCheck)
  have rn := floor_runs (.loading 2) false (working (.loadEnd 5) .duplicateCheck)
  refine ⟨{ s with store := { s.store with tagIndex := [] } }, _, ⟨rfl, by simp, rfl, rfl⟩,
    ⟨tb.segments, tb.items, by simp [Table.wf]⟩,
    ⟨rn.numbers, rn.counts, rn.inside, rn.apart, rn.freeCount, rn.largestFree⟩, rfl, ?_⟩
  rintro i ⟨hi, it, hit, h⟩
  rcases h with ⟨j, hj⟩ | ⟨k, other, hk, _, ho, ht⟩
  · simp [State.lookup, tget] at hj
  · have hi' : i = 0 ∨ i = 1 := by simp [inRun, seg5] at hi; omega
    rcases hi' with rfl | rfl
    · omega
    · obtain rfl : k = 0 := by omega
      have e1 : it = book 11 110 false := (Option.some.inj hit).symm
      have e2 : other = book 10 100 false := (Option.some.inj ho).symm
      rw [e1, e2] at ht; exact absurd ht (by decide)

/-- A LOADING segment, a READY one with its items free, and one with an item held. -/
theorem test_hyp_AbortAndUnloadGiveTheRunBack :
    (∃ s sl, TablesOk s ∧ RunsOk s ∧ Waiting s [] sl [] (.loadAbort 5) ∧ s.segment 5 = some (seg5 (.loading 0))) ∧
      (∃ s sl, TablesOk s ∧ RunsOk s ∧ Waiting s [] sl [] (.unload 5) ∧ s.segment 5 = some (seg5 .ready) ∧
        ∀ i it, inRun (seg5 .ready) i = true → s.item i = some it → it.hold = false) ∧
      ∃ s sl, TablesOk s ∧ RunsOk s ∧ Waiting s [] sl [] (.unload 5) ∧ s.segment 5 = some (seg5 .ready) ∧
        ∃ i it, inRun (seg5 .ready) i = true ∧ s.item i = some it ∧ it.hold = true := by
  refine ⟨⟨_, _, floor_tables _ false _, floor_runs _ false _, waits _ _, rfl⟩,
    ⟨_, _, floor_tables _ false _, floor_runs _ false _, waits _ _, rfl, ?_⟩,
    ⟨_, _, floor_tables _ true _, floor_runs _ true _, waits _ _, rfl, 1, _, by decide, rfl, rfl⟩⟩
  intro i it hi hit
  have hi' : i = 0 ∨ i = 1 := by simp [inRun, seg5] at hi; omega
  rcases hi' with rfl | rfl
  · obtain rfl := Option.some.inj hit; rfl
  · obtain rfl := Option.some.inj hit; rfl

theorem test_hyp_RecountAndQuerySegment :
    (∀ p, ∃ s sl, Waiting s [] sl [] (.recount 5) ∧ s.segment 5 = some (seg5 p)) ∧
      ∀ g, ∃ s sl, Waiting s [] sl [] (.querySegment g) :=
  ⟨fun p => ⟨_, _, waits (floor p false) _, rfl⟩, fun _ => ⟨_, _, waits State.reset _⟩⟩

/-- By tag code and by item index, at the last index of the table and above it; an item held and one not. -/
theorem test_hyp_QueryItemAnswersOrWaitsForTheHold :
    (∀ hold sel v, ∃ s sl, Waiting s [] sl [] (.queryItem sel v) ∧ s.item 0 = some (book 10 100 hold) ∧
      s.lookup 10 = some 0) ∧ (65535 : BitVec 64).toNat ≤ 65535 ∧ 65535 < (65536 : BitVec 64).toNat ∧
      ∃ s sl, InWork s [] sl [] (.queryItem 0 10) (.holdCleared 0 (book 10 100 false)) :=
  ⟨fun hold _ _ => ⟨_, _, waits (floor .ready hold) _, rfl, rfl⟩, by decide, by decide,
    ⟨_, _, works State.reset _ _⟩⟩

/-! ### Lanes -/

/-- An enabled DETACHED lane, one not enabled, and an IDLE one. -/
theorem test_hyp_LaneUpAttachesAnEnabledLane :
    (∀ m, ∃ s, Receives s .field ∧ (s.lane 0).mode = m ∧ s.opts.laneEnable.getLsbD 0 = true) ∧
      ({ State.reset with opts := { laneEnable := 0xFE } } : State).opts.laneEnable.getLsbD 0 = false :=
  ⟨fun m => ⟨_, laneState_receives .ready false m [], rfl, (by decide : (255 : BitVec 8).getLsbD 0 = true)⟩, by decide⟩

/-- A lane IN_VOID, one DETACHED, and one that counts. -/
theorem test_hyp_LaneDownDetaches :
    (∃ s, Receives s .field ∧ (s.lane 0).mode = .detached) ∧
      (∃ s, Receives s .field ∧ (s.lane 0).mode ≠ .detached ∧ NotCounting s 0) ∧
      ∃ s g c ctx, Receives s .field ∧ (s.lane 0).mode ≠ .detached ∧ CountsIn s 0 g c ctx :=
  ⟨⟨_, laneState_receives .ready false .detached [], rfl⟩,
    ⟨_, laneState_receives .ready false .inVoid [], by decide, by intro g d; simp [laneState, State.lane]⟩,
    ⟨countingState none [], _, _, _, ⟨rfl, rfl, by simp [countingState, withContext, laneState, floor, State.reset]⟩,
      by decide, countingState_counts none []⟩⟩

/-- A LEAVE entry. -/
def leaveEntry : Entry := { kind := .leave, gap := false }

/-- A DETACHED lane, an IDLE one with 63 entries, and one with 64. -/
theorem test_hyp_MarkerFramesJoinOrAreLost :
    (∀ m q, ∃ s, Receives s .field ∧ (s.lane 0).mode = m ∧ (s.lane 0).queue = q) ∧
      (List.replicate 63 leaveEntry).length < 64 ∧
      List.replicate 64 leaveEntry = List.replicate 63 leaveEntry ++ [leaveEntry] :=
  ⟨fun m q => ⟨_, laneState_receives .ready false m q, rfl, rfl⟩, by decide, by decide⟩

/-- A DETACHED lane, and an IDLE one at 59 entries, where one sighting of two is lost. -/
theorem test_hyp_SightFramesJoinBelowSixty :
    (∀ m q, ∃ s, Receives s .field ∧ (s.lane 0).mode = m ∧ (s.lane 0).queue = q) ∧
      (let frame : List WireSighting := [⟨1, 0xC6, true, 4095⟩, ⟨2, 0x80, false, 32767⟩]
       1 ≤ frame.length ∧ frame.length ≤ 8 ∧ (∀ w ∈ frame, w.positioned = true → w.position ≤ 4095) ∧
        (frame.take (60 - 59)).length = 1 ∧ (frame.drop (60 - 59)).length = 1) :=
  ⟨fun m q => ⟨_, laneState_receives .ready false m q, rfl, rfl⟩, by decide⟩

/-- Lane 0 with one entry, in a mode that is neither WAITING nor DETACHED. -/
theorem drains (m : LaneMode) (e : Entry) (h1 : m ≠ .detached) (h2 : isWaiting m = false) :
    Drains (laneState (floor .ready false) m [e]) 0 e [] where
  next := serves _ rfl rfl (by
    have hm : ((laneState (floor .ready false) m [e]).lane 0).mode = m := rfl
    have hq : ((laneState (floor .ready false) m [e]).lane 0).queue = [e] := rfl
    unfold Eligible; rw [hm, hq]; split <;> simp_all [isWaiting])
  notWaiting rel gap flag h := by
    have hm : ((laneState (floor .ready false) m [e]).lane 0).mode = m := rfl
    rw [hm] at h; simp [h, isWaiting] at h2
  queue := rfl

/-- The counting lane with one entry. -/
theorem countingDrains (d : Option Nat) (e : Entry) : Drains (countingState d [e]) 0 e [] where
  next := serves _ rfl rfl (by simp [Eligible, countingState, withContext, laneState, State.lane])
  notWaiting := by intro _ _ _; simp [countingState, withContext, laneState, State.lane]
  queue := rfl

theorem test_hyp_DrainsTakeTheHeadEntry :
    (∃ s, Drains s 0 { kind := .enter 5, gap := true } []) ∧ (∃ s, Drains s 0 { kind := .sight 1 (-50) none 0, gap := false } []) ∧
      ∃ s, Drains s 0 leaveEntry [] :=
  ⟨⟨_, drains .idle _ (by simp) rfl⟩, ⟨_, drains .inVoid _ (by simp) rfl⟩, ⟨_, drains .idle _ (by simp) rfl⟩⟩

/-- No lane counts in it. -/
theorem notCounting (m : LaneMode) (q : List Entry) (h : currentSegment m = none) :
    NotCounting (laneState (floor .ready false) m q) 0 := by
  intro g d hm
  have : m = .inSegment g d := hm
  simp [this, currentSegment] at h

/-- A drained ENTER of the READY segment 5, from IDLE and from a lane that counts, and a pending one re-evaluated. -/
theorem test_hyp_EnterOpensTheLowestFreeContext :
    (∃ s, EnterServed s .drainEnter 0 5 true ∧ NotCounting s 0 ∧ (s.lane 0).base + 5 < (s.lane 0).limit ∧
      s.segment 5 = some (seg5 .ready) ∧ Countable s (seg5 .ready) .ready ∧ LowestFree s 0) ∧
    (∃ s g c ctx, EnterServed s .drainEnter 0 5 false ∧ CountsIn s 0 g c ctx) ∧
    ∃ s, EnterServed s .reevaluatePendingEnter 0 5 false ∧ NotCounting s 0 := by
  refine ⟨⟨_, .inl ⟨rfl, _, drains .idle _ (by simp) rfl⟩, notCounting .idle _ rfl, by decide, rfl, .inl ⟨rfl, rfl⟩, rfl, ?_⟩,
    ⟨_, _, _, _, .inl ⟨rfl, _, countingDrains none _⟩, countingState_counts none _⟩,
    ⟨laneState (floor .ready false) (.waiting 5 false true) [], .inr ⟨rfl, serves _ rfl rfl ?_, rfl⟩,
      notCounting _ _ rfl⟩⟩
  · intro d h; simp at h
  · simp [Eligible, laneState, State.lane]

/-- Relative segment 2,048 is outside the window, 5 is COUNTING by another context, SETTLING, or LOADING. -/
theorem test_hyp_EnterIsRefusedOrWaits :
    (∃ s, EnterServed s .drainEnter 0 2047 false ∧ NotCounting s 0 ∧ enterRefusal s 0 2048 ≠ none ∧
      enterRefusal s 0 2047 ≠ none ∧ enterRefusal s 0 5 = none) ∧
    (∃ s c, (s.lane 0).base + 5 < (s.lane 0).limit ∧ settlesIn s 5 c) ∧
    enterRefusal (laneState (floor (.counting 3) false) .idle []) 0 5 =
      some { kind := .claimConflict, time := 0, lane := some 0, segment := some 5 } :=
  ⟨⟨_, .inl ⟨rfl, _, drains .idle _ (by simp) rfl⟩, notCounting .idle _ rfl, by decide, by decide, by decide⟩,
    ⟨laneState (floor (.settling 1) false) .idle [], 1, by decide, _, rfl, rfl⟩, by decide⟩

/-- The counting lane with observations in its context and so many slots free. -/
def fedState (os : List Observation) (free : Nat) (e : Entry) : State :=
  let s := withContext (countingState (some 3) [e]) (ctx5 (.opened 0) os)
  { s with pool := { s.pool with freeSlots := free } }

/-- The fed lane drains its entry and counts. -/
theorem fed (os : List Observation) (free : Nat) (e : Entry) :
    Drains (fedState os free e) 0 e [] ∧ CountsIn (fedState os free e) 0 5 0 (ctx5 (.opened 0) os) :=
  ⟨⟨serves _ rfl rfl (by simp [Eligible, fedState, countingState, withContext, laneState, State.lane]),
      by intro _ _ _; simp [fedState, countingState, withContext, laneState, State.lane], rfl⟩,
    ⟨⟨some 3, rfl⟩, ⟨rfl, rfl, ⟨seg5 (.counting 0), rfl, rfl⟩⟩, rfl⟩⟩

/-- A SIGHT drained in IN_VOID; for the lane that counts, one that forms an observation, one merged, one discarded at the
cap and one for an empty pool, with a gap mark and without, so that a context is closed empty and with hand-off. -/
theorem test_hyp_SightsAreAdmittedToTheirContext :
    (∃ s, Drains s 0 { kind := .sight 1 (-50) (some 3) 0, gap := true } [] ∧ NotCounting s 0) ∧
      ∀ gap, ∃ e : Entry, e = { kind := .sight 1 (-50) (some 3) 0, gap := gap } ∧
        (∀ os free, Drains (fedState os free e) 0 e [] ∧ CountsIn (fedState os free e) 0 5 0 (ctx5 (.opened 0) os)) ∧
        Forms (fedState [] 4096 e) (ctx5 (.opened 0) []) 1 ∧
        ¬ Forms (fedState [{ seen with tag := 1 }] 4095 e) (ctx5 (.opened 0) [{ seen with tag := 1 }]) 1 ∧
        ¬ Forms (fedState (List.replicate 640 seen) 3456 e) (ctx5 (.opened 0) (List.replicate 640 seen)) 1 ∧
        ¬ Forms (fedState [] 0 e) (ctx5 (.opened 0) []) 1 ∧
        (sighted (fedState [] 0 e) (ctx5 (.opened 0) []) 1 (-50) (some 3) 0).observations = [] ∧
        (sighted (fedState [] 4096 e) (ctx5 (.opened 0) []) 1 (-50) (some 3) 0).observations ≠ [] := by
  refine ⟨⟨_, drains .inVoid _ (by simp) rfl, notCounting .inVoid _ rfl⟩, fun gap => ⟨_, rfl, fun _ _ => fed _ _ _, ?_⟩⟩
  refine ⟨⟨by simp [ctx5], by simp [ctx5], by simp [fedState]⟩, ?_, ?_, ?_, by simp [sighted, ctx5, fedState],
    by simp [sighted, ctx5, fedState]⟩
  · rintro ⟨h, _, _⟩; simp [ctx5] at h
  · rintro ⟨_, h, _⟩; simp only [ctx5, List.length_replicate] at h; exact absurd h (Nat.lt_irrefl 640)
  · rintro ⟨_, _, h⟩; simp [fedState] at h

/-- A LEAVE with and without a count, an expired timer, and a CLOSE_SEGMENT of a COUNTING segment. -/
theorem test_hyp_ClosesEndTheCountOfALane :
    (∃ s, Drains s 0 leaveEntry [] ∧ NotCounting s 0) ∧
      (∃ s g c ctx, Drains s 0 leaveEntry [] ∧ CountsIn s 0 g c ctx) ∧
      (∃ s g c ctx, (s.lane 0).mode = .inSegment g (some 0) ∧ CountsIn s 0 g c ctx) ∧
      ∃ s sl g c ctx, Waiting s [] sl [] (.closeSegment g) ∧ CountsIn s 0 g c ctx :=
  ⟨⟨_, drains .idle _ (by simp) rfl, notCounting .idle _ rfl⟩,
    ⟨_, _, _, _, countingDrains none _, countingState_counts none _⟩,
    ⟨_, _, _, _, rfl, countingState_counts (some 0) []⟩,
    ⟨_, _, 5, 0, ctx5 (.opened 0) [], waits (countingState none []) _,
      ⟨⟨none, rfl⟩, ⟨rfl, rfl, ⟨seg5 (.counting 0), rfl, rfl⟩⟩, rfl⟩⟩⟩

/-- Ticks counted under a timer at 3, 1 and 0, and a part held by its reset input and by a RESET in progress. -/
theorem test_hyp_TicksAdvanceTheClockAndTheDwellTimers :
    (∀ n, (countingState (some n) []).resetPin = false ∧
      (∀ sl ∈ (countingState (some n) []).requests.slots, sl.state ≠ .inService .reset) ∧
      ((countingState (some n) []).lane 0).mode = .inSegment 5 (some n)) ∧
    (∃ t, exec .campaignClockTick (countingState (some 1) []) = .next t ∧ (t.lane 0).mode = .inSegment 5 (some 0)) ∧
    (∃ t, exec .campaignClockTick (countingState (some 0) []) = .next t ∧ (t.lane 0).mode = .inSegment 5 (some 0)) ∧
    (∃ s : State, s.resetPin = true) ∧ ∃ s : State, ∃ sl ∈ s.requests.slots, sl.state = .inService .reset :=
  ⟨fun _ => ⟨rfl, by simp [countingState, withContext, laneState, floor, State.reset], rfl⟩, ⟨_, rfl, by decide +kernel⟩,
    ⟨_, rfl, by decide +kernel⟩, ⟨{ State.reset with resetPin := true }, rfl⟩,
    ⟨withSlot State.reset (working .reset .reset), working .reset .reset, by simp [withSlot], rfl⟩⟩

/-! ### Circulation, settles and ports -/

/-- The Trunk Port receives on the floor. -/
def trunkState (s : State) : State := { s with trunk := { s.trunk with up := true } }

/-- A held item and one not held, an event that can be read, and three that cannot. -/
theorem test_hyp_CirculationEventsTakeOneOfFourWays :
    (∀ hold, ∃ s, Receives s .trunk ∧ s.lookup 10 = some 0 ∧ s.item 0 = some (book 10 100 hold) ∧
      s.circ.deferred.length < 32) ∧
      eventStatus ⟨4, 5, 10⟩ = some .lost ∧ eventStatus ⟨1, 255, 10⟩ = some .onLoan ∧ eventStatus ⟨4, 6, 10⟩ = none ∧
      eventStatus ⟨0, 0, 10⟩ = none ∧ eventStatus ⟨5, 0, 10⟩ = none ∧ State.reset.lookup 10 = none :=
  ⟨fun hold => ⟨trunkState (floor .ready hold), ⟨rfl, rfl, by simp [trunkState, floor, State.reset]⟩, rfl, rfl,
    by simp [trunkState, floor, State.reset]⟩, by decide, by decide, by decide, by decide, by decide, by decide⟩

/-- A frame of two events, and a scan with one event to apply. -/
theorem test_hyp_EventsAreTakenInOrder :
    (∃ s, Receives s .trunk ∧ 1 ≤ [(⟨1, 0, 10⟩ : WireEvent)].length ∧ [(⟨1, 0, 10⟩ : WireEvent)].length ≤ 7) ∧
      ∃ s e, s.settle.engine = .scanning ∧ TalliesOk s ∧ s.circ.deferred = [] ++ e :: [] ∧ s.lookup e.tag = some 0 ∧
        s.item 0 = some (book 10 100 false) :=
  ⟨⟨trunkState State.reset, ⟨rfl, rfl, by decide⟩, by decide, by decide⟩,
    ⟨{ floor .ready false with
        settle := { queue := [], engine := .scanning },
        circ := { State.reset.circ with deferred := [{ kind := .checkin, tag := 10, status := none, arrival := 1 }] } },
      { kind := .checkin, tag := 10, status := none, arrival := 1 }, rfl,
      ⟨by decide, by decide, by decide, by decide, by decide⟩, rfl, rfl, rfl⟩⟩

theorem test_hyp_FreezeHoldsTheItemsOfTheSettle :
    ∃ (s : State) (c : Fin 16) (ctx : Context), s.settle.engine = .taking ∧ s.settle.queue = 5 :: [] ∧ s.segment 5 = some (seg5 (.settling c)) ∧
      s.context c = some ctx :=
  ⟨{ settlingState .release none with settle := { queue := [5], engine := .taking } }, 0, _, rfl, rfl, rfl, rfl⟩

theorem test_hyp_ResolutionRulesEveryObservation :
    (∃ s w r c ctx, Settles s w r c ctx ∧ w.stage = .estimates) ∧
      ∃ s w r c ctx es, Settles s w r c ctx ∧ w.stage = .resolution es ∧ es.length = ctx.observations.length :=
  ⟨⟨_, _, _, _, _, settlingState_settles .estimates, rfl⟩,
    ⟨_, _, _, _, _, [some 100], settlingState_settles (.resolution [some 100]), rfl, rfl⟩⟩

theorem test_hyp_OrderChainRulesTheCandidates :
    ∃ s w r c ctx rs, Settles s w r c ctx ∧ w.stage = .orderChain rs ∧ rs ≠ [] :=
  ⟨_, _, _, _, _, [ruled (.placed 0 .candidate none)], settlingState_settles _, rfl, by simp⟩

/-- An unknown tag, a cross-read, and a placed item, last of the list and not. -/
theorem test_hyp_ResultsAreWrittenOneByOne (v : Verdict) (todo : List Ruling) :
    ∃ s w r c ctx rs, TablesOk s ∧ Settles s w r c ctx ∧ w.stage = .results rs (ruled v :: todo) ∧
      s.item 0 = some (book 10 100 true) :=
  ⟨_, _, _, _, _, [ruled v],
    floor_tables (.settling 0) true (asking .identify) |> fun h => ⟨h.segments, h.items, h.tagIndex⟩,
    settlingState_settles _, rfl, rfl⟩

/-- A home item not placed, and one placed elsewhere; a stray of another home. -/
theorem test_hyp_SweepJudgesItemsNotSeen :
    (∃ s w r c ctx rs it, Settles s w r c ctx ∧ w.stage = .sweep rs [1] ∧ s.item 1 = some it ∧ it.home = w.segment ∧
      it.placed = none) ∧
    (∃ s w r c ctx rs it p, Settles s w r c ctx ∧ w.stage = .sweep rs [1] ∧ s.item 1 = some it ∧ it.home = w.segment ∧
      it.placed = some p ∧ p.segment ≠ w.segment) ∧
    ∃ s w r c ctx rs it, Settles s w r c ctx ∧ w.stage = .sweep rs [1] ∧ s.item 1 = some it ∧ it.home ≠ w.segment := by
  refine ⟨⟨_, _, _, _, _, [], _, settlingState_settles (.sweep [] [1]), rfl, rfl, rfl, rfl⟩, ?_, ?_⟩
  · exact ⟨(settlingState (.sweep [] [1]) none).setItem 1 { book 11 110 true with placed := some ⟨6, -40⟩ }, _, _, _, _, [],
      _, ⟨6, -40⟩, ⟨rfl, rfl, rfl, rfl, rfl⟩, rfl, rfl, rfl, rfl, by decide⟩
  · exact ⟨(settlingState (.sweep [] [1]) none).setItem 1 { book 11 110 true with home := 6 }, _, _, _, _, [],
      _, ⟨rfl, rfl, rfl, rfl, rfl⟩, rfl, rfl, by decide⟩

/-- The summary with the queue empty; a kept finding with the count at or below FQ_RESUME, and above it. -/
theorem test_hyp_SummaryAndResumptionPushTheFinding :
    ∀ stage kept, ∃ (s : State) (r : Segment) (c : Fin 16) (ctx : Context) (l : Fin 8) (cause : CloseCause), s.settle.engine = .settling (settleWork stage kept) ∧ s.segment 5 = some r ∧
      r.phase = .settling c ∧ s.context c = some ctx ∧ ctx.phase = .closed l cause ∧
      s.findq.records.length ≤ s.opts.fqResume ∧
      ({ s with findq := { s.findq with records := List.replicate 201 { kind := .missing, time := 0 } } } :
        State).opts.fqResume < (List.replicate 201 ({ kind := .missing, time := 0 } : Finding)).length :=
  fun stage kept => ⟨settlingState stage kept, _, _, _, _, _, rfl, rfl, rfl, rfl, rfl, Nat.zero_le _, by
    rw [List.length_replicate]; exact Nat.lt_succ_self 200⟩

/-- Section 6.11.1: a finding of the sweep's last item, kept, is pushed at the resumption and the summary is still to come;
a SEGMENT_SETTLED, kept, is followed by the release. -/
theorem test_resume_goes_on :
    (∃ t, exec .settleResume (settlingState (.summary []) (some { kind := .missing, time := 0 })) = .next t ∧
      t.settle.engine = .settling (settleWork (.summary []) none) ∧ t.findq.records = [{ kind := .missing, time := 0 }]) ∧
    ∃ t, exec .settleResume (settlingState (.summary []) (some { kind := .segmentSettled, time := 0 })) = .next t ∧
      t.settle.engine = .settling (settleWork .release none) ∧
      t.findq.records = [{ kind := .segmentSettled, time := 0 }] :=
  ⟨⟨_, rfl, by decide +kernel, by decide +kernel⟩, ⟨_, rfl, by decide +kernel, by decide +kernel⟩⟩

/-- A release with a QUERY_ITEM that waits on the hold of item 0. -/
theorem test_hyp_ReleaseSettlesTheSegment :
    ∃ s w r c ctx sl, Settles s w r c ctx ∧ w.stage = .release ∧ ctx.phase = .closed 0 .leave ∧
      InWork s [] sl [] (.queryItem 0 10) (.holdWait 0) ∧ s.item 0 = some (book 10 100 true) :=
  ⟨withSlot (settlingState .release none) (working (.queryItem 0 10) (.holdWait 0)), _, _, _, _, _,
    ⟨rfl, rfl, rfl, rfl, rfl⟩, rfl, rfl, works _ _ _, rfl⟩

/-- Bytes that fail the checks and bytes that pass; lane 8 and relative segment 2,048; a LANE_MSG at 239 bytes. -/
theorem test_hyp_FramesAreCheckedOrForwarded :
    (∃ s, Receives s .field) ∧ (∃ s, Receives s .trunk) ∧ receive .field [] = none ∧
      receive .field (frameBytes 0x01 [3]) = some (.laneUp 3) ∧ (List.replicate 239 (0 : Byte)).length ≤ 239 ∧
      ¬ Receives State.reset .trunk ∧ ¬ Receives State.reset .field ∧
      8 < (List.replicate 9 (⟨1, 0, 1⟩ : WireEvent)).length ∧ 16 < (List.replicate 17 (⟨1, 0, 0⟩ : WireItem)).length ∧
      State.reset.field.out.length < 16 ∧
      16 ≤ ({ State.reset.field with out := List.replicate 16 (.laneMsg 0 []) } : FieldPort).out.length :=
  ⟨⟨_, laneState_receives .ready false .idle []⟩, ⟨trunkState State.reset, ⟨rfl, rfl, by decide⟩⟩, by decide,
    by decide +kernel, by rw [List.length_replicate], fun h => by simpa [State.reset] using h.1,
    fun h => by simpa [State.reset] using h.1, by decide, by decide, by decide, by decide⟩

/-- Each check of R160 that a frame can fail: framing, CRC, class, length, fields. -/
theorem test_receive_refuses :
    receive .field [0x01, 0x01] = none ∧ receive .field (frameBytes 0x01 [3] ++ [0]) = none ∧
      receive .field [0x01, 0x01, 0x03, 0x00, 0x00] = none ∧ receive .field (frameBytes 0x22 [0]) = none ∧
      receive .field (frameBytes 0x01 [3, 3]) = none ∧ receive .field (frameBytes 0x01 [8]) = none := by decide +kernel

/-- A reply made. -/
def madeReply : Reply := { tag := 1, kind := 0x11, status := .ok, segState := none, body := .none }

/-- The slot of a request whose reply is in a state. -/
def answeredSlot (st : SlotState) : Slot := { tag := 1, request := .restartCount, arrival := 0, state := st }

/-- A ready reply, a waiting NOTICE and a finding to select; each of the three being sent. -/
theorem test_hyp_TheTrunkPortSendsByPriority :
    (∃ s, Receives s .trunk ∧ s.trunk.tx = none ∧
      s.requests.slots = [] ++ answeredSlot (.replyReady madeReply) :: []) ∧
    (∃ s, Receives s .trunk ∧ s.trunk.tx = none ∧ s.requests.slots = [] ∧ s.notices.waiting = true) ∧
    (∃ s f, Receives s .trunk ∧ s.trunk.tx = none ∧ s.notices.waiting = false ∧ s.findq.records = f :: []) ∧
    (∃ s : State, s.trunk.tx = some { what := .reply, frame := [] } ∧
      s.requests.slots = [] ++ answeredSlot (.sending madeReply) :: []) ∧
    (∃ s : State, s.trunk.tx = some { what := .notice 0 0, frame := [] }) ∧
    ∃ (s : State) (w : Settle) (f : Finding), s.trunk.tx = some { what := .finding, frame := [] } ∧ s.settle.engine = .settling w ∧ w.kept = some f :=
  ⟨⟨trunkState (withSlot State.reset (answeredSlot (.replyReady madeReply))), ⟨rfl, rfl, by decide⟩, rfl, rfl⟩,
    ⟨{ trunkState State.reset with notices := { latches := 1, waiting := true } }, ⟨rfl, rfl, by decide⟩, rfl, rfl, rfl⟩,
    ⟨{ trunkState State.reset with findq := { records := [{ kind := .missing, time := 0 }], lost := false, lostTally := 0 } },
      _, ⟨rfl, rfl, by decide⟩, rfl, rfl, rfl⟩,
    ⟨(withSlot State.reset (answeredSlot (.sending madeReply))).setTrunkTx (some { what := .reply, frame := [] }), rfl, rfl⟩,
    ⟨State.reset.setTrunkTx (some { what := .notice 0 0, frame := [] }), rfl⟩,
    ⟨(settlingState .release (some { kind := .missing, time := 0 })).setTrunkTx (some { what := .finding, frame := [] }),
      _, _, rfl, rfl, rfl⟩⟩

/-- A pending signal of lane 7 from pointer 6, a frame to forward, and both being sent. -/
theorem test_hyp_TheFieldPortSendsSignalsFirst :
    (∃ s, Receives s .field ∧ s.field.tx = none ∧ s.field.signals[7] = some .pause ∧
      ∀ k : Fin 8, k < 7 - s.field.controlPtr → s.field.signals[(s.field.controlPtr + k).val] = none) ∧
    (∃ s, Receives s .field ∧ s.field.tx = none ∧ (∀ l : Fin 8, s.field.signals[l.val] = none) ∧
      s.field.out = .laneMsg 0 [] :: []) ∧
    (∃ s : State, s.field.tx = some { what := .signal 3 .resume, frame := [] }) ∧
    ∃ s : State, s.field.tx = some { what := .queued, frame := [] } :=
  ⟨⟨{ State.reset with field := { State.reset.field with
        up := true, controlPtr := 6, signals := (Vector.replicate 8 none).set 7 (some .pause) } },
      ⟨rfl, rfl, by decide⟩, rfl, rfl, by decide⟩,
    ⟨{ State.reset with field := { State.reset.field with up := true, out := [.laneMsg 0 []] } },
      ⟨rfl, rfl, by decide⟩, rfl, by decide, rfl⟩,
    ⟨State.reset.setFieldTx (some { what := .signal 3 .resume, frame := [] }), rfl⟩,
    ⟨State.reset.setFieldTx (some { what := .queued, frame := [] }), rfl⟩⟩

/-- The part held in reset; a Trunk Link UP with a reply being sent; a Field Link UP under a lane that counts. -/
theorem test_hyp_LinksGoUpAndDown :
    (∃ s : State, s.resetPin = true) ∧
    (∃ s : State, s.resetPin = false ∧ (∀ sl ∈ s.requests.slots, sl.state ≠ .inService .reset) ∧ s.trunk.up = true ∧
      s.trunk.tx = some { what := .reply, frame := [] } ∧
      s.requests.slots = [] ++ answeredSlot (.sending madeReply) :: []) ∧
    ∃ s : State, s.resetPin = false ∧ (∀ sl ∈ s.requests.slots, sl.state ≠ .inService .reset) ∧ s.field.up = true ∧
      ClaimsOk s ∧ s.context 0 = some (ctx5 (.opened 0) []) :=
  ⟨⟨{ State.reset with resetPin := true }, rfl⟩,
    ⟨(trunkState (withSlot State.reset (answeredSlot (.sending madeReply)))).setTrunkTx (some { what := .reply, frame := [] }),
      rfl, by decide, rfl, rfl, rfl⟩,
    ⟨countingState none [], rfl, by simp [countingState, withContext, laneState, floor, State.reset], rfl,
      counting_bound.1, rfl⟩⟩

/-- R159: the check value, by the layouts' own reading of the check. -/
theorem test_layout_check : checkOf [0x31, 0x32, 0x33, 0x34, 0x35, 0x36, 0x37, 0x38, 0x39] = 0x29B1 := by decide +kernel

/-- 9.7.2, 9.7.3 and 9.7.6: a RESUME of lane 3, and a STRAY of segment 412 with count 2, item 300 and peak −40 under
truncation, whose presence bits are 0, 1, 3 and 8; the checks left off. -/
theorem test_sent_bytes :
    (signalFrame 3 .resume).take 3 = [0x12, 0x01, 0x03] ∧
      (findingFrame { kind := .stray, time := 0x01020304, truncated := true, segment := some 412, count := some 2,
                      item := some 300, peak := some (-40) }).take 16 =
        [0x33, 0x0E, 0x04, 0x01, 0x02, 0x03, 0x04, 0x02, 0x01, 0x0B, 0x01, 0x9C, 0x02, 0x01, 0x2C, 0xD8] := by
  decide +kernel

/-- R3 on the floor, whose run is slots 0 and 1: 65,534 slots stand free from slot 2 on. -/
theorem test_free_stretch : FreeAt (floor .ready false) 2 65534 ∧ (floor .ready false).store.largestFree = 65534 := by
  refine ⟨⟨by decide, fun i h _ g r hr => ?_⟩, rfl⟩
  obtain ⟨_, rfl⟩ := floor_segment .ready false g r hr
  have : ¬ i < 2 := Nat.not_lt.mpr h
  simp [inRun, seg5, this]

/-- R130, R135: two waiting events of one MISSING item push one REVISED. -/
theorem test_scan_findings :
    let e : CircEvent := { kind := .checkin, tag := 10, status := none, arrival := 1 }
    let s := (floor .ready false).setItem 0 { book 10 100 false with result := .missing }
    scanFindings { s with circ := { s.circ with deferred := [e, { e with arrival := 2 }] } } =
      [{ kind := .revised, time := 0, segment := some 5, item := some 0, tag := some 10, rank := some 100,
         oldResult := some .missing, newResult := some .accounted }] := by decide

/-- R39: a SIGHT drained with 3 ticks to expiry restarts the timer at 3,000, and under a dwell setting of 0 lets it run on. -/
theorem test_sight_and_dwell :
    let s := fedState [] 4096 { kind := .sight 1 (-50) (some 3) 0, gap := false }
    let modeAfter (s : State) := match exec .drainSight s with
      | .next t => (t.lane 0).mode
      | _ => .detached
    modeAfter s = .inSegment 5 (some 3000) ∧
      modeAfter { s with opts := { s.opts with dwell := s.opts.dwell.set 0 0 } } = .inSegment 5 (some 3) := by
  decide +kernel

/-- R149 and R155: a finding whose frame is being sent outlives a count restart, and the cut of its frame (log entry 33). -/
theorem test_restart_keeps_sent_finding :
    let f : Finding := { kind := .missing, time := 7 }
    let s : State := { State.reset with findq := { State.reset.findq with records := [f, { f with time := 8 }] } }
    (cutTrunk (emptyFindings (s.setTrunkTx (some { what := .finding, frame := findingFrame f })))).findq.records = [f] := by
  decide +kernel

end Sys2Proof.Tests
end

section
/-! ENTER, LEAVE and SIGHT frames at a lane's Sighting Queue: what an entry that joins changes, what a lost one changes,
and the two statements assembled from these. -/

namespace Sys2Proof.Machine

/-! ### What a lane frame reaches -/

/-- A port that receives frames hands a lane frame of good form on (R161, R162). -/
theorem takeLaneFrame_of_receives {s : State} (h : Receives s .field) (l : Fin 8) (act : Fin 8 → State → State) :
    takeLaneFrame s l.val true act = act l s := by
  obtain ⟨hup, hpin, hslots⟩ := h
  have hr : fieldReceives s = true := by
    simpa [fieldReceives, held, resetInService, hup, hpin] using hslots
  simp [takeLaneFrame, hr]

/-- The lanes after a drop tally has been raised (R29). -/
theorem raiseDrop_lane (s : State) (l m : Fin 8) (n : Nat) :
    (raiseDrop s l n).lane m =
      if m = l then { s.lane l with dropTally := raised (s.lane l).dropTally n } else s.lane m :=
  State.setLane_lane ..

/-- A frame dropped at a DETACHED lane changes the lane's drop tally alone (R28). -/
theorem raiseDrop_spec (s : State) (l : Fin 8) (n : Nat) :
    (raiseDrop s l n).lane l = { s.lane l with dropTally := raised (s.lane l).dropTally n } ∧
      OtherLanes s (raiseDrop s l n) l ∧ (raiseDrop s l n).lanes.next = s.lanes.next ∧
      raiseDrop s l n = { s with lanes := (raiseDrop s l n).lanes } :=
  ⟨by rw [raiseDrop_lane, if_pos rfl], fun m hm => by rw [raiseDrop_lane, if_neg hm], rfl, rfl⟩

/-- Raising a tally twice raises it by the sum: it holds at its limit (R29). -/
theorem raised_raised (x a b : Nat) : raised (raised x a) b = raised x (a + b) := by
  unfold raised; omega

/-! ### Findings of the lanes -/

/-- A push by a producer other than the Settle Engine, in the words of Safety.lean (R147, R152). -/
theorem pushOther_pushed (s : State) (f : Finding) : Pushed s (pushOther s f) f := by
  constructor <;> intro h <;> rw [pushOther_findq]
  · rw [if_pos h]
  · rw [if_neg (Nat.not_lt.mpr h)]; rfl

/-- A push looks at the Findings Queues alone. -/
theorem Pushed.of_findq {s t u v : State} {f : Finding} (h : Pushed s t f) (hs : u.findq = s.findq)
    (ht : v.findq = t.findq) : Pushed u v f := by
  unfold Pushed at h ⊢; rw [hs, ht]; exact h

/-- The same of a push that may be none. -/
theorem PushedIfAny.of_findq {s t u v : State} {f : Option Finding} (h : PushedIfAny s t f) (hs : u.findq = s.findq)
    (ht : v.findq = t.findq) : PushedIfAny u v f := by
  cases f with
  | none => exact ht.trans (h.trans hs.symm)
  | some f => exact Pushed.of_findq h hs ht

/-- No lane changes as a finding is pushed. -/
theorem pushOther_lanes (s : State) (f : Finding) : (pushOther s f).lanes = s.lanes := by rw [pushOther_frame]

/-- A lane changed and then a finding pushed: beside the lanes, the Findings Queue and the notices alone change. -/
theorem pushOther_setLane_frame (s : State) (l : Fin 8) (r : Lane) (f : Finding) :
    pushOther (s.setLane l r) f =
      { s with lanes := (pushOther (s.setLane l r) f).lanes, findq := (pushOther (s.setLane l r) f).findq,
               notices := (pushOther (s.setLane l r) f).notices } := by
  rw [pushOther_lanes]; exact pushOther_frame _ f

/-! ### Entries that join the queue -/

/-- The entry counts as k entries join a queue of n, one at a time. -/
def joinCounts (n k : Nat) : List Nat := (List.range k).map fun j => n + 1 + j

/-- The first entry is counted, then the rest from the new count on. -/
theorem joinCounts_succ (n k : Nat) : joinCounts n (k + 1) = (n + 1) :: joinCounts (n + 1) k := by
  simp only [joinCounts, List.range_succ_eq_map, List.map_cons, List.map_map, Nat.add_zero, List.cons.injEq, true_and]
  exact List.map_congr_left fun j _ => by simp only [Function.comp_apply]; omega

/-- In t the entries `ks` have joined the tail of lane l's queue, with the thresholds evaluated at every new count
(R48, R49, R55, R56). -/
structure Joins (s t : State) (l : Fin 8) (ks : List EntryKind) : Prop where
  lane : t.lane l =
    { s.lane l with
      queue := (s.lane l).queue ++ ks.map fun k => { kind := k, gap := false }
      paused := (pausesAt s.opts (joinCounts (s.lane l).queue.length ks.length) (s.lane l).paused
        s.field.signals[l.val]).1 }
  field : t.field =
    { s.field with
      signals := s.field.signals.set l.val
        (pausesAt s.opts (joinCounts (s.lane l).queue.length ks.length) (s.lane l).paused
          s.field.signals[l.val]).2 l.isLt }
  others : OtherLanes s t l
  next : t.lanes.next = s.lanes.next
  frame : t = { s with lanes := t.lanes, field := t.field, notices := t.notices }

/-- No entry changes nothing. -/
theorem Joins.nil (s : State) (l : Fin 8) : Joins s s l [] where
  lane := by simp [joinCounts, pausesAt]
  field := by simp [joinCounts, pausesAt]
  others _ _ := rfl
  next := rfl
  frame := rfl

/-- An entry joins, then others behind it. -/
theorem Joins.cons {s t u : State} {l : Fin 8} {k : EntryKind} {ks : List EntryKind} (ht : Joins s t l [k])
    (hu : Joins t u l ks) : Joins s u l (k :: ks) := by
  have hopts : t.opts = s.opts := by rw [ht.frame]
  have hlen : (t.lane l).queue.length = (s.lane l).queue.length + 1 := by rw [ht.lane]; simp
  have hpaused : (t.lane l).paused = (pausesAt s.opts (joinCounts (s.lane l).queue.length 1) (s.lane l).paused
      s.field.signals[l.val]).1 := by rw [ht.lane]; rfl
  have hsignal : t.field.signals[l.val] = (pausesAt s.opts (joinCounts (s.lane l).queue.length 1) (s.lane l).paused
      s.field.signals[l.val]).2 := by simp [ht.field]
  have hall : pausesAt s.opts (joinCounts (s.lane l).queue.length (k :: ks).length) (s.lane l).paused
        s.field.signals[l.val] =
      pausesAt t.opts (joinCounts (t.lane l).queue.length ks.length) (t.lane l).paused t.field.signals[l.val] := by
    rw [hopts, hlen, hpaused, hsignal, List.length_cons, joinCounts_succ]; rfl
  constructor
  · rw [hall, hu.lane, ht.lane]; simp
  · rw [hall, hu.field, ht.field]; simp
  · exact fun m hm => (hu.others m hm).trans (ht.others m hm)
  · exact hu.next.trans ht.next
  · rw [hu.frame, ht.frame]

/-- One entry joins the tail (R48, R49, R55, R56). -/
theorem enqueue_joins (s : State) (l : Fin 8) (k : EntryKind) : Joins s (enqueue s l k) l [k] := by
  let u := s.setLane l { s.lane l with queue := (s.lane l).queue ++ [{ kind := k, gap := false }] }
  have hu : u.lane l = { s.lane l with queue := (s.lane l).queue ++ [{ kind := k, gap := false }] } :=
    State.setLane_lane_same ..
  have hlen : (u.lane l).queue.length = (s.lane l).queue.length + 1 := by rw [hu]; simp
  obtain ⟨hlanes, hfield, hnext⟩ := evalPause_spec u l
  rw [hlen] at hlanes hfield
  constructor
  · exact (hlanes l).trans (by rw [if_pos rfl, hu]; rfl)
  · exact hfield.trans (by rw [hu]; rfl)
  · intro m hm
    exact (hlanes m).trans (by rw [if_neg hm, State.setLane_lane, if_neg hm])
  · exact hnext
  · exact evalPause_frame u l

/-! ### ENTER and LEAVE frames -/

/-- The gap mark goes to the tail entry (R50). -/
theorem markNewest_append (older : List Entry) (newest : Entry) :
    markNewest (older ++ [newest]) = older ++ [{ newest with gap := true }] := by
  induction older with
  | nil => rfl
  | cons e older ih =>
    cases older with
    | nil => rfl
    | cons f older => exact congrArg (e :: ·) ih

/-- A lost marker: the gap mark, the drop tally and the finding (R50). -/
theorem loseMarker_spec (s : State) (l : Fin 8) (k : EntryKind) (older : List Entry) (newest : Entry)
    (hq : (s.lane l).queue = older ++ [newest]) :
    (loseMarker s l k).lane l =
        { s.lane l with queue := older ++ [{ newest with gap := true }], dropTally := raised (s.lane l).dropTally 1 } ∧
      Pushed s (loseMarker s l k)
        { kind := .laneMarkerLost, time := s.clock.value, lane := some l, reference := enterSegment k } ∧
      OtherLanes s (loseMarker s l k) l ∧ (loseMarker s l k).lanes.next = s.lanes.next ∧
      loseMarker s l k =
        { s with lanes := (loseMarker s l k).lanes, findq := (loseMarker s l k).findq,
                 notices := (loseMarker s l k).notices } := by
  let u := s.setLane l { s.lane l with queue := markNewest (s.lane l).queue }
  have hlanes : (loseMarker s l k).lanes = (raiseDrop u l 1).lanes := pushOther_lanes ..
  have hlane (m : Fin 8) := State.lane_eq_of_lanes hlanes m
  refine ⟨?_, ?_, ?_, ?_, ?_⟩
  · rw [hlane, raiseDrop_lane, if_pos rfl, State.setLane_lane_same, hq, markNewest_append]
  · exact (pushOther_pushed (raiseDrop u l 1) _).of_findq rfl rfl
  · intro m hm
    rw [hlane, raiseDrop_lane, if_neg hm, State.setLane_lane, if_neg hm]
  · rw [hlanes]; rfl
  · exact pushOther_setLane_frame u l _ _

/-- An ENTER or LEAVE frame in good form reaches its lane as a marker of its kind, which carries the segment a lost one
would report (R49, R50). -/
theorem exec_marker {s : State} {l : Fin 8} {i : Instr} {k : EntryKind} {lost : Option Nat} (hr : Receives s .field)
    (hi : (∃ rel, rel ≤ 2047 ∧ i = .enterFrame l.val rel ∧ k = .enter rel ∧ lost = some rel) ∨
      (i = .leaveFrame l.val ∧ k = .leave ∧ lost = none)) :
    exec i s = .next (markerFrame k l s) ∧ lost = enterSegment k := by
  rcases hi with ⟨rel, hrel, rfl, rfl, rfl⟩ | ⟨rfl, rfl, rfl⟩
  · have hk : takeLaneFrame s l.val (decide (rel ≤ 2047)) (markerFrame (.enter rel)) = markerFrame (.enter rel) l s := by
      rw [decide_eq_true hrel, takeLaneFrame_of_receives hr]
    exact ⟨congrArg _ hk, rfl⟩
  · exact ⟨congrArg _ (takeLaneFrame_of_receives hr l (markerFrame .leave)), rfl⟩

/-- Settles O40, by the three branches of `markerFrame`: dropped, joined, lost. -/
theorem markerFramesJoinOrAreLost : Obligations.MarkerFramesJoinOrAreLost := by
  intro s l i k lost hr hi
  obtain ⟨hexec, rfl⟩ := exec_marker hr hi
  refine ⟨fun hd => ?_, fun hd hlt => ?_, fun older newest hd hfull hq => ?_⟩
  · have hm : markerFrame k l s = raiseDrop s l 1 := if_pos hd
    exact ⟨_, hm ▸ hexec, raiseDrop_spec s l 1⟩
  · have hm : markerFrame k l s = enqueue s l k := by rw [markerFrame, if_neg hd, if_pos hlt]
    have hj := enqueue_joins s l k
    exact ⟨_, hm ▸ hexec, ⟨hj.lane, hj.field⟩, hj.others, hj.next, hj.frame⟩
  · have hm : markerFrame k l s = loseMarker s l k := by
      rw [markerFrame, if_neg hd, if_neg (Nat.not_lt.mpr hfull)]
    exact ⟨_, hm ▸ hexec, loseMarker_spec s l k older newest hq⟩

/-! ### Sightings that are lost -/

/-- The LANE_OVERRUN finding of lane l at the time given (R53). -/
def overrunFinding (l : Fin 8) (now : Time) : Finding := { kind := .laneOverrun, time := now, lane := some l }

/-- In t the sightings `lost` have been discarded at lane l: each raises the drop tally, and the first of an overrun
episode sets its flag and pushes LANE_OVERRUN (R48, R53). -/
structure Loses (s t : State) (l : Fin 8) (lost : List WireSighting) : Prop where
  lane : t.lane l =
    { s.lane l with
      overrun := (s.lane l).overrun || !lost.isEmpty
      dropTally := if lost = [] then (s.lane l).dropTally else raised (s.lane l).dropTally lost.length }
  pushed : PushedIfAny s t
    (if lost ≠ [] ∧ (s.lane l).overrun = false then some (overrunFinding l s.clock.value) else none)
  others : OtherLanes s t l
  next : t.lanes.next = s.lanes.next
  frame : t = { s with lanes := t.lanes, findq := t.findq, notices := t.notices }

/-- No sighting lost changes nothing. -/
theorem Loses.nil (s : State) (l : Fin 8) : Loses s s l [] where
  lane := by simp
  pushed := rfl
  others _ _ := rfl
  next := rfl
  frame := rfl

/-- A sighting is lost, then others: the flag is set by then, so they push nothing (R53). -/
theorem Loses.cons {s t u : State} {l : Fin 8} {w : WireSighting} {ws : List WireSighting} (ht : Loses s t l [w])
    (hu : Loses t u l ws) : Loses s u l (w :: ws) := by
  have hflag : (t.lane l).overrun = true := by rw [ht.lane]; simp
  have hfindq : u.findq = t.findq := by simpa [PushedIfAny, hflag] using hu.pushed
  constructor
  · rw [hu.lane, ht.lane]
    cases ws with
    | nil => simp
    | cons w' ws => simp [raised_raised, Nat.add_comm 1]
  · have h1 := ht.pushed
    cases ho : (s.lane l).overrun with
    | true => simpa [PushedIfAny, ho, hfindq] using h1
    | false =>
      simp only [ho, ne_eq, List.cons_ne_nil, not_false_eq_true, and_self, if_true] at h1 ⊢
      exact Pushed.of_findq h1 rfl hfindq
  · exact fun m hm => (hu.others m hm).trans (ht.others m hm)
  · exact hu.next.trans ht.next
  · rw [hu.frame, ht.frame]

/-- One sighting discarded (R48, R53). -/
theorem discardSighting_loses (s : State) (l : Fin 8) (w : WireSighting) : Loses s (discardSighting s l) l [w] := by
  obtain ⟨hlane, hothers, hnext, hframe⟩ := raiseDrop_spec s l 1
  have hov : ((raiseDrop s l 1).lane l).overrun = (s.lane l).overrun := by rw [hlane]
  cases ho : (s.lane l).overrun with
  | true =>
    have e : discardSighting s l = raiseDrop s l 1 := if_pos (hov.trans ho)
    rw [e]
    exact ⟨by rw [hlane]; simp [ho], by simp [PushedIfAny, ho], hothers, hnext, rfl⟩
  | false =>
    let u := (raiseDrop s l 1).setLane l { (raiseDrop s l 1).lane l with overrun := true }
    have e : discardSighting s l = pushOther u (overrunFinding l s.clock.value) :=
      if_neg (by rw [hov, ho]; exact Bool.false_ne_true)
    have hlanes : (discardSighting s l).lane = u.lane :=
      funext (State.lane_eq_of_lanes (e ▸ pushOther_lanes u _))
    constructor
    · rw [hlanes, State.setLane_lane_same, hlane]; simp
    · simp only [ho, ne_eq, List.cons_ne_nil, not_false_eq_true, and_self, if_true]
      exact (pushOther_pushed u _).of_findq rfl (by rw [e])
    · intro m hm
      rw [hlanes, State.setLane_lane, if_neg hm, hothers m hm]
    · rw [e, pushOther_lanes]; rfl
    · rw [e]; exact pushOther_setLane_frame (raiseDrop s l 1) l _ _

/-! ### SIGHT frames -/

/-- The clamp of R87, by bounds. -/
theorem clampInt_eq_max_min (lo hi v : Int) (h : lo ≤ hi) : clampInt lo hi v = max lo (min hi v) := by
  unfold clampInt; split
  · omega
  · split <;> omega

/-- Sightings that find room join in frame order (R48). -/
theorem foldl_offerSighting_joins (l : Fin 8) (ws : List WireSighting) (s : State)
    (h : (s.lane l).queue.length + ws.length ≤ 60) :
    Joins s (ws.foldl (offerSighting l) s) l (ws.map (sightEntry s.clock.value)) := by
  induction ws generalizing s with
  | nil => exact Joins.nil s l
  | cons w ws ih =>
    have hroom : (s.lane l).queue.length < 60 := by simp only [List.length_cons] at h; omega
    have hj := enqueue_joins s l (sightEntry s.clock.value w)
    have hlen : ((enqueue s l (sightEntry s.clock.value w)).lane l).queue.length = (s.lane l).queue.length + 1 := by
      rw [hj.lane]; simp
    have hclock : (enqueue s l (sightEntry s.clock.value w)).clock = s.clock := by rw [hj.frame]
    have e : offerSighting l s w = enqueue s l (sightEntry s.clock.value w) := if_pos hroom
    rw [List.foldl_cons, List.map_cons, e]
    have hrest := ih (enqueue s l (sightEntry s.clock.value w)) (by simp only [List.length_cons] at h; omega)
    rw [hclock] at hrest
    exact hj.cons hrest

/-- At 60 entries or more every sighting offered is lost (R48). -/
theorem foldl_offerSighting_loses (l : Fin 8) (ws : List WireSighting) (s : State)
    (h : 60 ≤ (s.lane l).queue.length) : Loses s (ws.foldl (offerSighting l) s) l ws := by
  induction ws generalizing s with
  | nil => exact Loses.nil s l
  | cons w ws ih =>
    have hd := discardSighting_loses s l w
    have e : offerSighting l s w = discardSighting s l := if_neg (Nat.not_lt.mpr h)
    rw [List.foldl_cons, e]
    exact hd.cons (ih _ (by rw [hd.lane]; exact h))

/-- A frame splits at 60 entries: what is ahead joins, and the rest is lost (R48). -/
theorem foldl_offerSighting_split (l : Fin 8) (ws : List WireSighting) (s : State) :
    ∃ t, Joins s t l ((ws.take (60 - (s.lane l).queue.length)).map (sightEntry s.clock.value)) ∧
      Loses t (ws.foldl (offerSighting l) s) l (ws.drop (60 - (s.lane l).queue.length)) := by
  obtain ⟨room, hroom⟩ : ∃ room, room = 60 - (s.lane l).queue.length := ⟨_, rfl⟩
  rw [← hroom]
  rcases Nat.lt_or_ge 60 (s.lane l).queue.length with hover | hle
  · have hzero : room = 0 := by omega
    subst hzero
    exact ⟨s, Joins.nil s l, foldl_offerSighting_loses l ws s hover.le⟩
  · have hj := foldl_offerSighting_joins l (ws.take room) s (by rw [List.length_take]; omega)
    refine ⟨_, hj, ?_⟩
    have hsplit : ws.foldl (offerSighting l) s =
        (ws.drop room).foldl (offerSighting l) ((ws.take room).foldl (offerSighting l) s) := by
      rw [← List.foldl_append, List.take_append_drop]
    rw [hsplit]
    rcases Nat.lt_or_ge room ws.length with hlt | hge
    · apply foldl_offerSighting_loses
      rw [hj.lane]; simp only [List.length_append, List.length_map, List.length_take]; omega
    · rw [List.drop_eq_nil_of_le hge]
      exact Loses.nil _ l

/-- A SIGHT frame of one to eight sightings whose positions are in range reaches its lane (R161). -/
theorem exec_sightFrame {s : State} {l : Fin 8} {frame : List WireSighting} (hr : Receives s .field)
    (h1 : 1 ≤ frame.length) (h8 : frame.length ≤ 8) (hp : ∀ w ∈ frame, w.positioned = true → w.position ≤ 4095) :
    exec (.sightFrame l.val frame) s = .next (sightArrives frame l s) := by
  have hok : sightFieldsOk frame = true := by
    simp only [sightFieldsOk, h1, h8, and_self, decide_true, Bool.true_and, List.all_eq_true, Bool.or_eq_true,
      Bool.not_eq_true', decide_eq_true_eq]
    intro w hw
    cases hpos : w.positioned with
    | false => exact .inl rfl
    | true => exact .inr (hp w hw hpos)
  have ht : takeLaneFrame s l.val (sightFieldsOk frame) (sightArrives frame) = sightArrives frame l s := by
    rw [hok, takeLaneFrame_of_receives hr]
  exact congrArg _ ht

/-- A sighting's entry, with its RSSI clamped by bounds (R47, R87). -/
theorem sightEntry_eq (now : Time) (w : WireSighting) :
    sightEntry now w = .sight w.tag (max (-100) (min (-20) w.rssi.toInt))
      (if w.positioned then some w.position else none) now := by
  rw [sightEntry, clampRssi, clampInt_eq_max_min _ _ _ (by decide)]

/-- Settles O41: the frame is dropped at a DETACHED lane, and else splits at 60 entries into sightings that join and
sightings that are lost. -/
theorem sightFramesJoinBelowSixty : Obligations.SightFramesJoinBelowSixty := by
  intro s l frame hr h1 h8 hp
  have hexec := exec_sightFrame (l := l) hr h1 h8 hp
  refine ⟨fun hd => ?_, fun hd => ?_⟩
  · have hs : sightArrives frame l s = raiseDrop s l frame.length := if_pos hd
    exact ⟨_, hs ▸ hexec, raiseDrop_spec s l frame.length⟩
  · have hs : sightArrives frame l s = frame.foldl (offerSighting l) s := if_neg hd
    rw [hs] at hexec
    obtain ⟨t, hj, hlost⟩ := foldl_offerSighting_split l frame s
    have hentries : sightEntry s.clock.value = _ := funext (sightEntry_eq s.clock.value)
    have hfield : (frame.foldl (offerSighting l) s).field = t.field := by rw [hlost.frame]
    have hoverrun : (t.lane l).overrun = (s.lane l).overrun := by rw [hj.lane]
    have hclock : t.clock = s.clock := by rw [hj.frame]
    have hfindq : t.findq = s.findq := by rw [hj.frame]
    refine ⟨_, hexec, ⟨?_, ?_, ?_⟩, ?_, ?_, ?_⟩
    · rw [hlost.lane, hj.lane]
      simp only [hentries, List.map_map, List.length_map]; rfl
    · rw [hfield, hj.field]
      simp only [List.length_map]; rfl
    · have hpush := hlost.pushed
      rw [hoverrun, hclock] at hpush
      exact hpush.of_findq hfindq.symm rfl
    · exact fun m hm => (hlost.others m hm).trans (hj.others m hm)
    · exact hlost.next.trans hj.next
    · rw [hlost.frame, hj.frame]

end Sys2Proof.Machine
end

section
/-! Weights and position estimates (chapter 5): how the two rounded divisions of the model lie to what they divide, and the
two statements assembled from that. -/

namespace Sys2Proof.Machine

/-! ### The rounding of a weight (R89) -/

/-- The rounded fifth is within half a unit of x / 5, in tenths. -/
theorem roundFifth_nearest (x : Int) : 2 * x - 5 ≤ 10 * roundFifth x ∧ 10 * roundFifth x ≤ 2 * x + 5 := by
  unfold roundFifth; omega

theorem roundFifth_mono {x y : Int} (h : x ≤ y) : roundFifth x ≤ roundFifth y := by
  unfold roundFifth; omega

/-- Five fifths of a whole number are the number itself; with `roundFifth_mono` this bounds every step of a band. -/
@[simp] theorem roundFifth_mul_five (d : Int) : roundFifth (d * 5) = d := by
  unfold roundFifth; omega

@[simp] theorem roundFifth_zero : roundFifth 0 = 0 := rfl

/-- A step of at most a whole band stays between its two ends, whether the band rises or falls. -/
theorem roundFifth_mul_between (d : Int) {r : Nat} (hr : r ≤ 5) :
    min 0 d ≤ roundFifth (d * r) ∧ roundFifth (d * r) ≤ max 0 d := by
  have hr' : (r : Int) ≤ 5 := mod_cast hr
  rcases le_total 0 d with hd | hd
  · have hlow := roundFifth_mono (mul_nonneg hd r.cast_nonneg)
    have hhigh := roundFifth_mono (mul_le_mul_of_nonneg_left hr' hd)
    rw [roundFifth_zero] at hlow
    rw [roundFifth_mul_five] at hhigh
    exact ⟨min_le_of_left_le hlow, le_max_of_le_right hhigh⟩
  · have hlow := roundFifth_mono (mul_le_mul_of_nonpos_left hr' hd)
    have hhigh := roundFifth_mono (mul_nonpos_of_nonpos_of_nonneg hd r.cast_nonneg)
    rw [roundFifth_mul_five] at hlow
    rw [roundFifth_zero] at hhigh
    exact ⟨min_le_of_right_le hlow, le_max_of_le_left hhigh⟩

/-! ### Knots and the weight between them (R88, R89) -/

/-- A knot that the table holds is the one that `knot` reads. -/
theorem knot_eq_of_getElem? {knots : Vector (BitVec 16) 17} {k n : Nat}
    (h : (knots.toList[k]?).map BitVec.toNat = some n) : knot knots k = n := by
  obtain ⟨b, hb, rfl⟩ := Option.map_eq_some_iff.mp h
  simp only [knot, List.getD_eq_getElem?_getD, hb, Option.getD_some]

/-- The table ends at knot 16. -/
theorem knot_index_le {knots : Vector (BitVec 16) 17} {k n : Nat}
    (h : (knots.toList[k]?).map BitVec.toNat = some n) : k ≤ 16 := by
  obtain ⟨b, hb, _⟩ := Option.map_eq_some_iff.mp h
  obtain ⟨hk, _⟩ := List.getElem?_eq_some_iff.mp hb
  rw [Vector.length_toList] at hk
  omega

/-- A knot is a 16-bit word. -/
theorem knot_le (knots : Vector (BitVec 16) 17) (k : Nat) : knot knots k ≤ 65535 :=
  Nat.le_of_lt_succ (BitVec.isLt _)

section
variable {knots : Vector (BitVec 16) 17} {rssi : Int} {k r : Nat}

/-- At the top of the range the weight is knot 16. -/
theorem weight_of_top_band (ho : (rssi + 100).toNat = 5 * k + r) (hk : 16 ≤ k) :
    weight knots rssi = knot knots 16 := by
  have hband : 16 ≤ (rssi + 100).toNat / 5 := by omega
  simp only [weight, if_pos hband]

/-- Below the top the weight is knot k and the rounded part of the way to knot k+1: the sum is never cut at 0, for it lies
between the two knots. -/
theorem weight_of_band (ho : (rssi + 100).toNat = 5 * k + r) (hr : r < 5) (hk : k < 16) :
    (weight knots rssi : Int) =
      knot knots k + roundFifth (((knot knots (k + 1) : Int) - knot knots k) * r) := by
  have hband : (rssi + 100).toNat / 5 = k := by omega
  have hstep : (rssi + 100).toNat % 5 = r := by omega
  have hbetween := roundFifth_mul_between ((knot knots (k + 1) : Int) - knot knots k) hr.le
  simp only [weight, hband, hstep, if_neg (Nat.not_le.mpr hk)]
  omega

/-- In a band the weight lies between the band's two knots. -/
theorem weight_between_knots (ho : (rssi + 100).toNat = 5 * k + r) (hr : r < 5) (hk : k < 16) :
    min (knot knots k) (knot knots (k + 1)) ≤ weight knots rssi ∧
      weight knots rssi ≤ max (knot knots k) (knot knots (k + 1)) := by
  have hw := weight_of_band (knots := knots) ho hr hk
  have hbetween := roundFifth_mul_between ((knot knots (k + 1) : Int) - knot knots k) hr.le
  omega

/-- A weight fits 16 bits, as the knots do. -/
theorem weight_le (knots : Vector (BitVec 16) 17) (rssi : Int) : weight knots rssi ≤ 65535 := by
  have ho := (Nat.div_add_mod (rssi + 100).toNat 5).symm
  rcases Nat.lt_or_ge ((rssi + 100).toNat / 5) 16 with hk | hk
  · exact (weight_between_knots ho (Nat.mod_lt _ (by decide)) hk).2.trans (max_le (knot_le ..) (knot_le ..))
  · rw [weight_of_top_band ho hk]
    exact knot_le ..

end

/-- Settles O14: in a band by the rounding of `roundFifth`, at the top by knot 16, above which there is no knot. -/
theorem weightIsNearestInterpolation : Obligations.WeightIsNearestInterpolation := by
  intro knots rssi _ _ o k r ho hr low hlow
  obtain rfl := knot_eq_of_getElem? hlow
  refine ⟨fun hk => ?_, fun hk hr0 => ?_, fun high hhigh => ?_, weight_le knots rssi⟩
  · rw [weight_of_top_band ho hk.ge, hk]
  · have hw := weight_of_band (knots := knots) ho hr hk
    rw [hr0, Nat.cast_zero, mul_zero, roundFifth_zero, add_zero] at hw
    exact mod_cast hw
  · have hk : k < 16 := knot_index_le hhigh
    obtain rfl := knot_eq_of_getElem? hhigh
    have hw := weight_of_band (knots := knots) ho hr hk
    obtain ⟨hbelow, habove⟩ := roundFifth_nearest (((knot knots (k + 1) : Int) - knot knots k) * r)
    exact ⟨by omega, by omega, weight_between_knots ho hr hk⟩

/-! ### Position estimates (R97, R98) -/

/-- The estimate is the whole number nearest to p / w, halves upward (R97). -/
theorem positionEstimate_eq_some_iff (w p e : Nat) :
    positionEstimate w p = some e ↔ 0 < w ∧ 2 * w * e ≤ 2 * p + w ∧ 2 * p + w < 2 * w * (e + 1) := by
  unfold positionEstimate
  split
  next h => simp [h]
  next h =>
    have hw : 0 < w := Nat.pos_of_ne_zero h
    rw [Option.some.injEq, Nat.div_eq_iff (Nat.mul_pos two_pos hw), mul_comm e, mul_add_one]
    omega

/-- Whole bounds of p / w bound its nearest whole number too. -/
theorem positionEstimate_between {w p e least greatest : Nat} (h : positionEstimate w p = some e)
    (hleast : w * least ≤ p) (hgreatest : p ≤ w * greatest) : least ≤ e ∧ e ≤ greatest := by
  obtain ⟨hw, hlow, hhigh⟩ := (positionEstimate_eq_some_iff w p e).mp h
  constructor
  · refine Nat.le_of_lt_succ (Nat.lt_of_mul_lt_mul_left (a := 2 * w) ?_)
    calc 2 * w * least = 2 * (w * least) := mul_assoc ..
      _ ≤ 2 * p + w := by omega
      _ < 2 * w * (e + 1) := hhigh
  · refine Nat.le_of_lt_succ (Nat.lt_of_mul_lt_mul_left (a := 2 * w) ?_)
    calc 2 * w * e ≤ 2 * p + w := hlow
      _ < 2 * (w * greatest) + 2 * w := by omega
      _ = 2 * w * (greatest + 1) := by ring

/-- Settles O15: each sighting's term of P lies between its weight times the two bounds, so P lies between W times them. -/
theorem estimateLiesBetweenPositions : Obligations.EstimateLiesBetweenPositions := by
  intro sightings least greatest e hbounds h
  have hbetween : ∀ x ∈ sightings, x.1 * least ≤ x.1 * x.2 ∧ x.1 * x.2 ≤ x.1 * greatest := fun x hx =>
    have ⟨_, hlow, hhigh⟩ := hbounds x hx
    ⟨Nat.mul_le_mul_left _ hlow, Nat.mul_le_mul_left _ hhigh⟩
  refine positionEstimate_between h ?_ ?_
  · rw [← List.sum_map_mul_right]
    exact List.sum_le_sum fun x hx => (hbetween x hx).1
  · rw [← List.sum_map_mul_right]
    exact List.sum_le_sum fun x hx => (hbetween x hx).2

end Sys2Proof.Machine
end

section
/-! The estimates and resolution stages of a settle (R104 to R108): the settle the engine is in, the verdict of each case
of R105, and the statement assembled from these. -/

namespace Sys2Proof.Machine

/-! ### The settle the engine is in (R101, R102) -/

/-- The parts the stages read are those `Settles` names. -/
theorem Settles.inSettle_eq {s : State} {w : Settle} {r : Segment} {c : Fin 16} {ctx : Context}
    (h : Settles s w r c ctx) : inSettle s = some (w, r, c, ctx) := by
  have hrunning : Sys2Proof.Machine.running s = some w := by
    simp [Sys2Proof.Machine.running, h.engine, h.running]
  have hcontext : settlingContext s w.segment = some (c, ctx) := by
    simp [settlingContext, h.segment, h.settling, h.context]
  simp [inSettle, hrunning, hcontext, h.segment]

section
variable {s : State} {w : Settle} {r : Segment} {c : Fin 16} {ctx : Context}

/-- The estimates stage hands its estimates on to resolution (R104). -/
theorem Settles.exec_settleEstimates (h : Settles s w r c ctx) (hstage : w.stage = .estimates) :
    exec .settleEstimates s = .next (s.setSettle { w with stage := .resolution (estimatesOf ctx.observations) }) := by
  change execSettleEstimates s = _
  simp only [execSettleEstimates, h.inSettle_eq, hstage]

/-- The resolution stage hands its rulings on to the order chain, with the cross-reads counted (R105, R107). -/
theorem Settles.exec_settleResolution (h : Settles s w r c ctx) {es : List (Option Nat)}
    (hstage : w.stage = .resolution es) :
    exec .settleResolution s = .next (s.setSettle { w with
      stage := .orderChain (resolveAll s w r.twin ctx.observations es)
      tallies := { w.tallies with crossReads := countCrossReads (resolveAll s w r.twin ctx.observations es) } }) := by
  change execSettleResolution s = _
  simp only [execSettleResolution, h.inSettle_eq, hstage]

end

/-! ### The cases of R105 -/

section
variable {s : State} {w : Settle} {twin : Option Nat} {o : Observation} {estimate : Option Nat} {i : Nat} {it : Item}

/-- An observation with no item index is of an unknown tag (R108). -/
theorem resolve_unknown (ho : o.item = none) : resolve s w twin o estimate = .unknown := by
  simp only [resolve, ho]

/-- Case (a), relocated: seen more strongly than the placement elsewhere by more than REVISE (R106). -/
theorem resolve_relocated (ho : o.item = some i) (hi : s.item i = some it) {p : Placement} (hp : it.placed = some p)
    (haway : p.segment ≠ w.segment) (hpeak : p.peak + w.revise < o.peak) :
    resolve s w twin o estimate = .placed i (placeOf w.segment it estimate)
      (some { oldResult := it.result, oldSegment := p.segment }) := by
  simp only [resolve, ho, hi, hp, if_neg haway, if_pos hpeak]

/-- Case (a), not relocated (R107). -/
theorem resolve_crossRead_of_placed (ho : o.item = some i) (hi : s.item i = some it) {p : Placement}
    (hp : it.placed = some p) (haway : p.segment ≠ w.segment) (hpeak : o.peak ≤ p.peak + w.revise) :
    resolve s w twin o estimate = .crossRead := by
  simp only [resolve, ho, hi, hp, if_neg haway, if_neg (not_lt.mpr hpeak)]

/-- Case (b): an unlocated item of the twin, seen below XREAD (R107). -/
theorem resolve_crossRead_of_twin (ho : o.item = some i) (hi : s.item i = some it) (hp : it.placed = none)
    (hfaint : twin = some it.home ∧ o.peak < w.xread) : resolve s w twin o estimate = .crossRead := by
  simp only [resolve, ho, hi, hp, if_pos hfaint]

/-- Past cases (a) and (b), an unlocated item is placed by (c) or (d). -/
theorem resolve_unlocated (ho : o.item = some i) (hi : s.item i = some it) (hp : it.placed = none)
    (hclear : ¬ (twin = some it.home ∧ o.peak < w.xread)) :
    resolve s w twin o estimate = .placed i (placeOf w.segment it estimate) none := by
  simp only [resolve, ho, hi, hp, if_neg hclear]

/-- An item located in the segment in settle passes (a) and (b) by, whatever its peak. -/
theorem resolve_located_here (ho : o.item = some i) (hi : s.item i = some it) {p : Placement}
    (hp : it.placed = some p) (hhere : p.segment = w.segment) :
    resolve s w twin o estimate = .placed i (placeOf w.segment it estimate) none := by
  simp only [resolve, ho, hi, hp, if_pos hhere]

end

/-- What the stage answers for an observation is what R105 rules. -/
theorem ruled_resolve (s : State) (w : Settle) (twin : Option Nat) (o : Observation) (estimate : Option Nat) :
    Ruled s w twin o estimate (resolve s w twin o estimate) := by
  refine ⟨resolve_unknown, fun i it ho hi => ⟨fun p hp haway => ⟨?_, ?_⟩, fun hp => ⟨?_, ?_⟩, fun p hp hhere => ?_⟩⟩
  · exact resolve_relocated ho hi hp haway
  · exact resolve_crossRead_of_placed ho hi hp haway
  · exact resolve_crossRead_of_twin ho hi hp
  · exact resolve_unlocated ho hi hp
  · exact resolve_located_here ho hi hp hhere

/-! ### Every observation, in list order -/

section
variable {s : State} {w : Settle} {twin : Option Nat} {os : List Observation} {es : List (Option Nat)}

/-- Given an estimate for each, every observation is ruled on. -/
theorem resolveAll_length (h : es.length = os.length) : (resolveAll s w twin os es).length = os.length := by
  rw [resolveAll, List.length_map, List.length_zip, h, min_self]

/-- The ruling at a place is the verdict on the observation and the estimate there. -/
theorem resolveAll_getElem? {k : Nat} {o : Observation} {e : Option Nat} (ho : os[k]? = some o) (he : es[k]? = some e) :
    (resolveAll s w twin os es)[k]? =
      some { observation := o, estimate := e, verdict := resolve s w twin o e } := by
  have hzip : (os.zip es)[k]? = some (o, e) := List.getElem?_zip_eq_some.mpr ⟨ho, he⟩
  rw [resolveAll, List.getElem?_map, hzip, Option.map_some]

end

/-- Settles O51: each stage hands on its list, and the ruling at each place is the verdict `ruled_resolve` speaks of. -/
theorem resolutionRulesEveryObservation : Obligations.ResolutionRulesEveryObservation := by
  intro s w r c ctx h
  refine ⟨h.exec_settleEstimates, fun es hstage hlen => ?_⟩
  refine ⟨_, h.exec_settleResolution hstage, resolveAll_length hlen, fun k o e x ho he hx => ?_⟩
  obtain rfl := Option.some.inj ((resolveAll_getElem? ho he).symm.trans hx)
  exact ⟨rfl, rfl, ruled_resolve s w r.twin o e⟩

end Sys2Proof.Machine
end

section
/-! One event of a CIRC frame (R126 to R134): how it is read, what ignoring, deferring, dropping and applying it change,
and the statement assembled from these. -/

namespace Sys2Proof.Machine

/-! ### What a CIRC frame reaches -/

/-- A Trunk Port that receives frames hands a frame of good form on (R161, R162). -/
theorem takeTrunkFrame_of_receives {s : State} (h : Receives s .trunk) (act : State → State) :
    takeTrunkFrame s true act = act s := by
  obtain ⟨hup, hpin, hslots⟩ := h
  have hr : trunkReceives s = true := by
    simpa [trunkReceives, held, resetInService, hup, hpin] using hslots
  simp [takeTrunkFrame, hr]

/-- A CIRC frame of one to eight events is taken event by event, all with the frame's arrival time (R126). -/
theorem exec_circ {s : State} (h : Receives s .trunk) {ws : List WireEvent} (h1 : 1 ≤ ws.length)
    (h8 : ws.length ≤ 8) : exec (.circ ws) s = .next (ws.foldl (takeEvent s.clock.value) s) := by
  have hok : circFieldsOk ws = true := decide_eq_true ⟨h1, h8⟩
  have ht : takeTrunkFrame s (circFieldsOk ws) (fun s => ws.foldl (takeEvent s.clock.value) s) =
      ws.foldl (takeEvent s.clock.value) s := by rw [hok, takeTrunkFrame_of_receives h]
  exact congrArg _ ht

/-! ### Reading an event (R126, R127) -/

/-- The event e is what the frame's event w, giving the status `given`, reads as at the time `now` (R126). -/
structure Reads (now : Time) (w : WireEvent) (given : CircStatus) (e : CircEvent) : Prop where
  kind : eventCode e.kind = w.kind
  tag : e.tag = w.tag
  status : e.status = if w.kind = 4 then some given else none
  arrival : e.arrival = now
  gives : newStatus e = given

/-- An event that gives no status is not read (R127). -/
theorem readEvent_eq_none (now : Time) : ∀ {w : WireEvent}, eventStatus w = none → readEvent now w = none
  | ⟨0, _, _⟩, _ => rfl
  | ⟨4, code, _⟩, h => by
    have hcode : circOfCode code = none := h
    simp only [readEvent, eventOfCode, hcode]
  | ⟨_ + 5, _, _⟩, _ => rfl

/-- An event that gives a status is read, with its status value kept for SET_STATUS alone (R126). -/
theorem readEvent_eq_some (now : Time) {given : CircStatus} :
    ∀ {w : WireEvent}, eventStatus w = some given → ∃ e, readEvent now w = some e ∧ Reads now w given e
  | ⟨1, _, _⟩, h => ⟨_, rfl, rfl, rfl, rfl, rfl, Option.some.inj h⟩
  | ⟨2, _, _⟩, h => ⟨_, rfl, rfl, rfl, rfl, rfl, Option.some.inj h⟩
  | ⟨3, _, _⟩, h => ⟨_, rfl, rfl, rfl, rfl, rfl, Option.some.inj h⟩
  | ⟨4, code, tag⟩, h => by
    have hcode : circOfCode code = some given := h
    exact ⟨{ kind := .setStatus, tag := tag, status := some given, arrival := now },
      by simp only [readEvent, eventOfCode, hcode], rfl, rfl, rfl, rfl, rfl⟩

/-- The tag of an event that names a written item record finds it. -/
theorem lookupItem_eq_some {s : State} {t : Tag} {i : Nat} {it : Item} (hl : s.lookup t = some i)
    (hi : s.item i = some it) : lookupItem s t = some (i, it) := by
  simp only [lookupItem, hl, hi, Option.map_some]

/-- A tag that names no written item record finds none. -/
theorem lookupItem_eq_none {s : State} {t : Tag} (h : ∀ i, s.lookup t = some i → s.item i = none) :
    lookupItem s t = none := by
  cases hl : s.lookup t with
  | none => simp only [lookupItem, hl]
  | some i => simp only [lookupItem, hl, h i hl, Option.map_none]

/-- An event of this tag waits in the Deferred Queue (R129). -/
theorem tagDeferred_iff (s : State) (t : Tag) : tagDeferred s t = true ↔ ∃ e ∈ s.circ.deferred, e.tag = t := by
  simp only [tagDeferred, List.any_eq_true, decide_eq_true_eq]

/-! ### The choice between the ways (R127, R129) -/

/-- An event whose kind, status or tag cannot be used is ignored (R127). -/
theorem takeEvent_ignores (now : Time) {s : State} {w : WireEvent}
    (h : eventStatus w = none ∨ ∀ i, s.lookup w.tag = some i → s.item i = none) :
    takeEvent now s w = ignoreEvent s := by
  cases hs : eventStatus w with
  | none => simp only [takeEvent, readEvent_eq_none now hs]
  | some status =>
    have hn : lookupItem s w.tag = none := lookupItem_eq_none (h.resolve_left (by simp [hs]))
    obtain ⟨e, hread, he⟩ := readEvent_eq_some now hs
    simp only [takeEvent, hread, he.tag, hn]

section
variable {now : Time} {s : State} {w : WireEvent} {e : CircEvent} {given : CircStatus} {i : Nat} {it : Item}

/-- An event that has been read and names an item is deferred or applied by the test of R129. -/
theorem takeEvent_of_reads (hread : readEvent now w = some e) (he : Reads now w given e)
    (hl : s.lookup w.tag = some i) (hi : s.item i = some it) :
    takeEvent now s w =
      if it.hold || tagDeferred s w.tag then deferEvent s e i it else applyEvent s e i it := by
  simp only [takeEvent, hread, he.tag, lookupItem_eq_some hl hi]

/-- Its item held or an event of its tag waiting, the event is deferred (R129). -/
theorem takeEvent_defers (hread : readEvent now w = some e) (he : Reads now w given e)
    (hl : s.lookup w.tag = some i) (hi : s.item i = some it)
    (hwait : it.hold = true ∨ ∃ d ∈ s.circ.deferred, d.tag = w.tag) :
    takeEvent now s w = deferEvent s e i it := by
  rw [takeEvent_of_reads hread he hl hi, if_pos]
  rwa [Bool.or_eq_true, tagDeferred_iff]

/-- Its item not held and no event of its tag waiting, the event is applied (R129). -/
theorem takeEvent_applies (hread : readEvent now w = some e) (he : Reads now w given e)
    (hl : s.lookup w.tag = some i) (hi : s.item i = some it) (hfree : it.hold = false)
    (hnone : ∀ d ∈ s.circ.deferred, d.tag ≠ w.tag) : takeEvent now s w = applyEvent s e i it := by
  rw [takeEvent_of_reads hread he hl hi, if_neg]
  rw [Bool.or_eq_true, tagDeferred_iff]
  rintro (hhold | ⟨d, hd, htag⟩)
  · exact Bool.false_ne_true (hfree.symm.trans hhold)
  · exact hnone d hd htag

end

/-! ### Deferred and dropped events (R133, R134) -/

/-- Below 32 events the event joins the tail of the Deferred Queue (R133). -/
theorem deferEvent_joins {s : State} (e : CircEvent) (i : Nat) (it : Item) (h : s.circ.deferred.length < 32) :
    (deferEvent s e i it).circ = { s.circ with deferred := s.circ.deferred ++ [e],
                                               deferredTally := raised s.circ.deferredTally 1 } ∧
      deferEvent s e i it = { s with circ := (deferEvent s e i it).circ, notices := (deferEvent s e i it).notices } := by
  rw [deferEvent, if_pos h]
  exact ⟨rfl, rfl⟩

/-- At 32 events the event is dropped with its finding, and no record changes (R134). -/
theorem deferEvent_drops {s : State} (e : CircEvent) (i : Nat) (it : Item) (h : 32 ≤ s.circ.deferred.length) :
    (deferEvent s e i it).circ = { s.circ with dropped := raised s.circ.dropped 1 } ∧
      Pushed s (deferEvent s e i it) (droppedFinding e i it) ∧
      deferEvent s e i it = { s with circ := (deferEvent s e i it).circ, findq := (deferEvent s e i it).findq,
                                     notices := (deferEvent s e i it).notices } := by
  let u : State := { s with circ := { s.circ with dropped := tallyAdd s.circ.dropped 1 } }
  have hd : deferEvent s e i it = pushOther u (droppedFinding e i it) := if_neg (Nat.not_lt.mpr h)
  have hcirc : (pushOther u (droppedFinding e i it)).circ = u.circ := by rw [pushOther_frame]
  rw [hd]
  refine ⟨hcirc, (pushOther_pushed u _).of_findq rfl rfl, ?_⟩
  rw [hcirc]
  exact pushOther_frame u _

/-! ### Applied events (R128, R130, R131) -/

/-- The results an application explains are MISSING and UNVERIFIED (R130). -/
theorem explained_iff (r : CountResult) : explained r = true ↔ Explained r := by
  simp only [explained, Explained, Bool.or_eq_true, decide_eq_true_eq]

/-- The record an application leaves (R128, R130). -/
theorem appliedItem_appliedTo (e : CircEvent) (it : Item) :
    AppliedTo it (appliedItem e it) (newStatus e) e.arrival :=
  ⟨rfl, fun h => if_pos ((explained_iff _).mpr h), fun h => if_neg fun hx => h ((explained_iff _).mp hx)⟩

/-- The finding of an application, if it makes one (R131). -/
def applyFinding (s : State) (i : Nat) (it : Item) : Option Finding :=
  if explained it.result then some (accountedFinding s.clock.value i it) else none

/-- An application writes its item's record, raises the applied tally and pushes its finding, if it makes one; beside
these the notices alone change (R128, R130, R131). -/
theorem applyEvent_spec (s : State) (e : CircEvent) (i : Nat) (it : Item) :
    (applyEvent s e i it).store = (s.setItem i (appliedItem e it)).store ∧
      (applyEvent s e i it).circ = { s.circ with applied := raised s.circ.applied 1 } ∧
      PushedIfAny s (applyEvent s e i it) (applyFinding s i it) ∧
      applyEvent s e i it =
        { s with store := (applyEvent s e i it).store, circ := (applyEvent s e i it).circ,
                 findq := (applyEvent s e i it).findq, notices := (applyEvent s e i it).notices } := by
  let u := s.setItem i (appliedItem e it)
  unfold applyEvent applyFinding
  cases explained it.result with
  | false => exact ⟨rfl, rfl, rfl, rfl⟩
  | true =>
    have hpush := pushOther_pushed u (accountedFinding u.clock.value i it)
    obtain ⟨q, n, hq⟩ : ∃ q n, pushOther u (accountedFinding u.clock.value i it) =
        { u with findq := q, notices := n } := ⟨_, _, pushOther_frame ..⟩
    dsimp only
    rw [if_pos rfl, hq]
    rw [hq] at hpush
    exact ⟨rfl, rfl, hpush.of_findq rfl rfl, rfl⟩

/-- The item records after an event is applied to item i: its own is written, every other stays. -/
theorem applyEvent_item (s : State) (e : CircEvent) (i : Nat) (it : Item) :
    (applyEvent s e i it).item i = some (appliedItem e it) ∧
      ∀ j, j ≠ i → (applyEvent s e i it).item j = s.item j := by
  have hitem (j : Nat) : (applyEvent s e i it).item j = (s.setItem i (appliedItem e it)).item j :=
    congrArg (fun x : Store => tget x.items j) (applyEvent_spec s e i it).1
  exact ⟨(hitem i).trans (tget_tput_same ..), fun j hj => (hitem j).trans (tget_tput_other _ _ _ _ hj)⟩

/-! ### The statement -/

/-- Settles O48: the event is ignored, or else read; then `takeEvent_defers` and `takeEvent_applies` name its way. -/
theorem circulationEventsTakeOneOfFourWays : Obligations.CirculationEventsTakeOneOfFourWays := by
  intro s w hr
  have hexec : exec (.circ [w]) s = .next (takeEvent s.clock.value s w) := exec_circ hr le_rfl (by simp)
  refine ⟨fun h => hexec.trans (congrArg _ (takeEvent_ignores _ h)), fun status i it hstatus hl hi => ?_⟩
  obtain ⟨e, hread, he⟩ := readEvent_eq_some s.clock.value hstatus
  have heq : e = { kind := e.kind, tag := w.tag, arrival := s.clock.value,
                   status := if w.kind = 4 then some status else none } := by
    rw [← he.tag, ← he.arrival, ← he.status]
  refine ⟨fun hwait => ?_, fun hfree hnone => ?_⟩
  · rw [hexec, takeEvent_defers hread he hl hi hwait]
    refine ⟨_, e.kind, rfl, he.kind, fun hroom => ?_, fun hfull => ?_⟩
    · rw [← heq]
      exact deferEvent_joins e i it hroom
    · have hd := deferEvent_drops e i it hfull
      rwa [droppedFinding, he.arrival, he.tag] at hd
  · rw [hexec, takeEvent_applies hread he hl hi hfree hnone]
    obtain ⟨hstore, hcirc, hpush, hframe⟩ := applyEvent_spec s e i it
    obtain ⟨hown, hothers⟩ := applyEvent_item s e i it
    have happlied := appliedItem_appliedTo e it
    rw [he.gives, he.arrival] at happlied
    refine ⟨_, _, rfl, hown, happlied, hothers, hcirc, fun hx => ?_, fun hx => ?_, ?_, hframe⟩
    · rwa [applyFinding, if_pos ((explained_iff _).mpr hx)] at hpush
    · rwa [applyFinding, if_neg fun h => hx ((explained_iff _).mp h)] at hpush
    · rw [hstore]; rfl

end Sys2Proof.Machine
end

section
/-! IDENTIFY and READ_NOTICES (R178, R185): what a served request that takes no time does beside its reply, what the two
commands serve, and the two statements assembled from these. -/

namespace Sys2Proof.Machine

section
variable {s : State} {before after : List Slot} {sl : Slot}

/-! ### A request that takes no time (R173) -/

/-- While a request is served, the live conditions are those before it: no condition reads the Request Queue (R182). -/
theorem served_liveConditions : liveConditions (served s before sl after) = liveConditions s := rfl

/-- A served request whose effect leaves the Request Queue alone is answered as the effect says; beside the Request Queue
the state is the one the effect leaves. -/
theorem Waiting.answers {req : Request} (hw : Waiting s before sl after req) {e : State → State × Answer} {u : State}
    {a : Answer} (he : e (served s before sl after) = (u, a)) (hu : u.requests = (served s before sl after).requests) :
    Answers s (serveNow s e) before sl after (requestCode req) a.status a.segState a.body ∧
      serveNow s e = { u with requests := (serveNow s e).requests } := by
  have hserve : serveNow s e =
      u.setSlots (before ++ { sl with state := .replyReady (replyTo sl a) } :: after) := by
    rw [hw.serve e (by rw [he, hu]), he]
  rw [hserve]
  refine ⟨?_, rfl⟩
  simp only [Answers, State.setSlots, replyTo, hu, hw.request]

/-! ### What the commands serve -/

/-- A waiting IDENTIFY is served with its identity and no effect (R178). -/
theorem Waiting.exec_identify (hw : Waiting s before sl after .identify) :
    exec .identify s = .next (serveNow s fun s => (s, { status := .ok, body := .identity })) := by
  change execIdentify s = _
  simp only [execIdentify, hw.next]

/-- A waiting READ_NOTICES is served by the model's `readNotices` (R185). -/
theorem Waiting.exec_readNotices (hw : Waiting s before sl after .readNotices) :
    exec .readNotices s = .next (serveNow s readNotices) := by
  change execReadNotices s = _
  simp only [execReadNotices, hw.next]

end

/-- The codes of R178 in two, two and one bytes, then the thirteen capacities in four bytes each. -/
theorem bodyBytes_identity :
    bodyBytes .identity =
      (wide 2 0x0E15 ++ wide 2 0x0048 ++ wide 1 3) ++
        ([8, 2048, 65536, 512, 16, 4096, 640, 64, 256, 32, 8, 16, 17].map (wide 4)).flatten := by
  have hwide : be 4 = wide 4 := funext (be_eq_wide 4)
  simp only [bodyBytes, identityBytes, be_eq_wide, hwide]
  rfl

/-! ### The statements -/

/-- Settles O19: the reply leaves the rest of the state alone, and `bodyBytes_identity` spells what it carries. -/
theorem identifyAnswersCodesAndCapacities : Obligations.IdentifyAnswersCodesAndCapacities := by
  refine ⟨fun s before after sl hw => ?_, ?_⟩
  · obtain ⟨hreply, hframe⟩ := hw.only (fun s => (s, { status := .ok, body := .identity })) _ rfl
    exact ⟨_, hw.exec_identify, hreply, hframe⟩
  · simp only [bodyBytes_identity, List.map_cons, List.map_nil, List.flatten_cons, List.flatten_nil, List.append_nil,
      List.append_assoc]

/-- Settles O28: `readNotices` reads conditions and latches as `served_liveConditions` says they stand, and clears the
notices alone. -/
theorem readNoticesAnswersAndClears : Obligations.ReadNoticesAnswersAndClears := by
  intro s before after sl hw
  obtain ⟨hreply, hframe⟩ := hw.answers (e := readNotices) rfl rfl
  rw [served_liveConditions] at hreply
  exact ⟨_, hw.exec_readNotices, hreply, hframe⟩

end Sys2Proof.Machine
end

section
/-! The runs of the Item Table laid out in order, and the free stretches between them (R3, R10): what a stretch is, that
every free place lies in one, and what first fit and the longest stretch therefore find. -/

namespace Sys2Proof.Machine

/-! ### Sorting and maxima -/

/-- What is inserted into an ordered list stands in order there. The orders are compared on the elements of P alone. -/
theorem insertBy_pairwise {α : Type} {before : α → α → Bool} {R : α → α → Prop} {P : α → Prop}
    (hbefore : ∀ a b, P a → P b → before a b = true → R a b) (hnot : ∀ a b, P a → P b → before a b = false → R b a)
    (htrans : ∀ a b c, P a → P b → P c → R a b → R b c → R a c) (x : α) (hx : P x) (l : List α) (hl : ∀ y ∈ l, P y)
    (h : l.Pairwise R) : (insertBy before x l).Pairwise R := by
  induction l with
  | nil => exact List.pairwise_singleton R x
  | cons y ys ih =>
    obtain ⟨hy, hys⟩ := List.pairwise_cons.mp h
    obtain ⟨hpy, hpys⟩ := List.forall_mem_cons.mp hl
    unfold insertBy
    split
    next hyx =>
      refine List.pairwise_cons.mpr ⟨fun z hz => ?_, ih hpys hys⟩
      rcases List.mem_cons.mp ((insertBy_perm before x ys).mem_iff.mp hz) with rfl | hz
      · exact hbefore _ _ hpy hx hyx
      · exact hy z hz
    next hyx =>
      have hxy : R x y := hnot _ _ hpy hx (Bool.not_eq_true _ ▸ hyx)
      refine List.pairwise_cons.mpr ⟨fun z hz => ?_, h⟩
      rcases List.mem_cons.mp hz with rfl | hz
      · exact hxy
      · exact htrans _ _ _ hx hpy (hpys z hz) hxy (hy z hz)

/-- A sorted list stands in order. -/
theorem sortBy_pairwise {α : Type} {before : α → α → Bool} {R : α → α → Prop} {P : α → Prop}
    (hbefore : ∀ a b, P a → P b → before a b = true → R a b) (hnot : ∀ a b, P a → P b → before a b = false → R b a)
    (htrans : ∀ a b c, P a → P b → P c → R a b → R b c → R a c) (l : List α) (hl : ∀ x ∈ l, P x) :
    (sortBy before l).Pairwise R := by
  induction l with
  | nil => exact List.Pairwise.nil
  | cons x xs ih =>
    obtain ⟨hx, hxs⟩ := List.forall_mem_cons.mp hl
    exact insertBy_pairwise hbefore hnot htrans x hx _ (fun y hy => hxs y ((sortBy_perm before xs).mem_iff.mp hy)) (ih hxs)

/-- The greatest of some numbers is no less than any, nor than what it is taken with. -/
theorem le_foldl_max (l : List Nat) (m : Nat) : m ≤ l.foldl max m ∧ ∀ x ∈ l, x ≤ l.foldl max m := by
  induction l generalizing m with
  | nil => simp
  | cons y ys ih =>
    obtain ⟨hinit, hall⟩ := ih (max m y)
    refine ⟨(le_max_left ..).trans hinit, fun x hx => ?_⟩
    rcases List.mem_cons.mp hx with rfl | hx
    · exact (le_max_right ..).trans hinit
    · exact hall x hx

/-- The greatest of some numbers is one of them, or what it is taken with. -/
theorem foldl_max_eq_or_mem (l : List Nat) (m : Nat) : l.foldl max m = m ∨ l.foldl max m ∈ l := by
  induction l generalizing m with
  | nil => exact .inl rfl
  | cons y ys ih =>
    rcases ih (max m y) with h | h
    · rcases max_choice m y with hm | hm
      · exact .inl (h.trans hm)
      · exact .inr (List.mem_cons.mpr (.inl (h.trans hm)))
    · exact .inr (List.mem_cons_of_mem _ h)

/-! ### Runs in order (R3) -/

/-- Runs, as first slot and length, that stand in order from a slot on within the table, none empty. -/
def LaidFrom : Nat → List (Nat × Nat) → Prop
  | start, [] => start ≤ 65536
  | start, (first, count) :: rest => start ≤ first ∧ 1 ≤ count ∧ LaidFrom (first + count) rest

/-- In order and apart, runs within the table are laid out from the start. -/
theorem LaidFrom.of_pairwise {start : Nat} {runs : List (Nat × Nat)} (hstart : start ≤ 65536)
    (hfrom : ∀ a ∈ runs, start ≤ a.1 ∧ 1 ≤ a.2 ∧ a.1 + a.2 ≤ 65536)
    (horder : runs.Pairwise fun a b => a.1 + a.2 ≤ b.1) : LaidFrom start runs := by
  induction runs generalizing start with
  | nil => exact hstart
  | cons a rest ih =>
    obtain ⟨hlow, hcount, hinside⟩ := hfrom a List.mem_cons_self
    obtain ⟨ha, hrest⟩ := List.pairwise_cons.mp horder
    refine ⟨hlow, hcount, ih hinside (fun b hb => ?_) hrest⟩
    exact ⟨ha b hb, (hfrom b (List.mem_cons_of_mem _ hb)).2⟩

/-- Runs laid out from a slot on stand at or after it. -/
theorem LaidFrom.le_first {start : Nat} {runs : List (Nat × Nat)} (h : LaidFrom start runs) :
    ∀ a ∈ runs, start ≤ a.1 := by
  induction runs generalizing start with
  | nil => simp
  | cons a rest ih =>
    obtain ⟨hlow, hcount, hrest⟩ := h
    intro b hb
    rcases List.mem_cons.mp hb with rfl | hb
    · exact hlow
    · have := ih hrest b hb; omega

/-- The start of the layout is within the table. -/
theorem LaidFrom.start_le {start : Nat} {runs : List (Nat × Nat)} (h : LaidFrom start runs) : start ≤ 65536 := by
  induction runs generalizing start with
  | nil => exact h
  | cons a rest ih => obtain ⟨hlow, hcount, hrest⟩ := h; have := ih hrest; omega

/-- Free stretches and runs together make up the table (R3). -/
theorem LaidFrom.gaps_sum {start : Nat} {runs : List (Nat × Nat)} (h : LaidFrom start runs) :
    ((gapsFrom start runs).map Prod.snd).sum + (runs.map Prod.snd).sum + start = 65536 := by
  induction runs generalizing start with
  | nil => have : start ≤ 65536 := h; simp [gapsFrom, Config.itemSlots]; omega
  | cons a rest ih =>
    obtain ⟨hlow, hcount, hrest⟩ := h
    have := ih hrest
    simp only [gapsFrom, List.map_cons, List.sum_cons]; omega

/-- A free stretch lies within the table and beside every run. -/
theorem LaidFrom.gap_free {start : Nat} {runs : List (Nat × Nat)} (h : LaidFrom start runs) :
    ∀ g ∈ gapsFrom start runs, start ≤ g.1 ∧ g.1 + g.2 ≤ 65536 ∧ ∀ a ∈ runs, a.1 + a.2 ≤ g.1 ∨ g.1 + g.2 ≤ a.1 := by
  induction runs generalizing start with
  | nil => have : start ≤ 65536 := h; simp [gapsFrom, Config.itemSlots]; omega
  | cons a rest ih =>
    obtain ⟨hlow, hcount, hrest⟩ := h
    have hend := hrest.start_le
    intro g hg
    rcases List.mem_cons.mp hg with rfl | hg
    · refine ⟨le_rfl, by dsimp only; omega, fun b hb => .inr ?_⟩
      dsimp only
      rcases List.mem_cons.mp hb with rfl | hb
      · omega
      · have := hrest.le_first b hb; omega
    · obtain ⟨hg1, hg2, hapart⟩ := ih hrest g hg
      refine ⟨by omega, hg2, fun b hb => ?_⟩
      rcases List.mem_cons.mp hb with rfl | hb
      · exact .inl hg1
      · exact hapart b hb

/-- A free place of one slot or more lies in a free stretch. -/
theorem LaidFrom.exists_gap {start : Nat} {runs : List (Nat × Nat)} (h : LaidFrom start runs) {k n : Nat} (hn : 1 ≤ n)
    (hk : start ≤ k) (hend : k + n ≤ 65536)
    (hfree : ∀ a ∈ runs, ∀ i, k ≤ i → i < k + n → ¬ (a.1 ≤ i ∧ i < a.1 + a.2)) :
    ∃ g ∈ gapsFrom start runs, g.1 ≤ k ∧ k + n ≤ g.1 + g.2 := by
  induction runs generalizing start with
  | nil => exact ⟨_, List.mem_singleton.mpr rfl, hk, by dsimp only [Config.itemSlots]; omega⟩
  | cons a rest ih =>
    obtain ⟨hlow, hcount, hrest⟩ := h
    rcases Nat.lt_or_ge k (a.1 + a.2) with hbefore | hafter
    · refine ⟨_, List.mem_cons_self, hk, ?_⟩
      have hclear := hfree a List.mem_cons_self (max k a.1)
      dsimp only; omega
    · obtain ⟨g, hg, hin⟩ := ih hrest hafter fun b hb => hfree b (List.mem_cons_of_mem _ hb)
      exact ⟨g, List.mem_cons_of_mem _ hg, hin⟩

/-- The free stretches stand in order. -/
theorem LaidFrom.gaps_ordered {start : Nat} {runs : List (Nat × Nat)} (h : LaidFrom start runs) :
    (gapsFrom start runs).Pairwise fun a b => a.1 ≤ b.1 := by
  induction runs generalizing start with
  | nil => exact List.pairwise_singleton _ _
  | cons a rest ih =>
    obtain ⟨hlow, hcount, hrest⟩ := h
    refine List.pairwise_cons.mpr ⟨fun g hg => ?_, ih hrest⟩
    have := (hrest.gap_free g hg).1
    dsimp only; omega

/-! ### The runs of a state (R1, R3) -/

/-- A slot of a run, by its bounds. -/
theorem inRun_iff (r : Segment) (i : Nat) : inRun r i = true ↔ r.firstItem ≤ i ∧ i < r.firstItem + r.itemCount := by
  simp only [inRun, decide_eq_true_eq]

section
variable {s : State}

/-- The listed segments are those that read back. -/
theorem TablesOk.segment_iff (h : TablesOk s) (g : Nat) (r : Segment) :
    s.segment g = some r ↔ (g, r) ∈ s.store.segments := tget_eq_some _ h.segments g r

/-- The runs in order are those of the segments. -/
theorem mem_runsOf (segs : Table Segment) (a : Nat × Nat) :
    a ∈ runsOf segs ↔ ∃ e ∈ segs, a = (e.2.firstItem, e.2.itemCount) := by
  rw [runsOf, (sortBy_perm _ _).mem_iff, List.mem_map]
  exact exists_congr fun e => and_congr_right fun _ => eq_comm

/-- The runs of a sound state are laid out from slot 0. -/
theorem RunsOk.laid (ht : TablesOk s) (h : RunsOk s) : LaidFrom 0 (runsOf s.store.segments) := by
  have hlisted : ∀ e ∈ s.store.segments, s.segment e.1 = some e.2 := fun e he => (ht.segment_iff e.1 e.2).mpr he
  have hapart : s.store.segments.Pairwise fun e f =>
      e.2.firstItem + e.2.itemCount ≤ f.2.firstItem ∨ f.2.firstItem + f.2.itemCount ≤ e.2.firstItem := by
    have hkeys : s.store.segments.Pairwise fun e f => e.1 < f.1 := List.pairwise_map.mp ht.segments
    refine hkeys.imp_of_mem fun {e f} he hf hlt => ?_
    by_contra hmeet
    have hce := h.counts _ _ (hlisted e he)
    have hcf := h.counts _ _ (hlisted f hf)
    have hsame := h.apart e.1 f.1 e.2 f.2 (max e.2.firstItem f.2.firstItem) (hlisted e he) (hlisted f hf)
      ((inRun_iff _ _).mpr (by omega)) ((inRun_iff _ _).mpr (by omega))
    omega
  refine LaidFrom.of_pairwise (Nat.zero_le _) (fun a ha => ?_) ?_
  · obtain ⟨e, he, rfl⟩ := (mem_runsOf _ _).mp ha
    exact ⟨Nat.zero_le _, (h.counts _ _ (hlisted e he)).1, h.inside _ _ (hlisted e he)⟩
  · have hruns : (runsOf s.store.segments).Pairwise fun a b => a.1 + a.2 ≤ b.1 ∨ b.1 + b.2 ≤ a.1 :=
      (sortBy_perm _ _).symm.pairwise (List.pairwise_map.mpr hapart) fun h => h.symm
    have hsorted : (runsOf s.store.segments).Pairwise fun a b => a.1 ≤ b.1 :=
      sortBy_pairwise (R := fun a b : Nat × Nat => a.1 ≤ b.1) (P := fun _ => True)
        (fun _ _ _ _ h => (of_decide_eq_true h).le) (fun _ _ _ _ h => not_lt.mp (of_decide_eq_false h))
        (fun _ _ _ _ _ _ h k => Nat.le_trans h k) _ fun _ _ => trivial
    refine (hruns.and hsorted).imp_of_mem fun {a b} ha hb hab => ?_
    obtain ⟨e, he, rfl⟩ := (mem_runsOf _ _).mp ha
    obtain ⟨f, hf, rfl⟩ := (mem_runsOf _ _).mp hb
    have hcf := (h.counts _ _ (hlisted f hf)).1
    dsimp only at *; omega

/-- A place is free when it meets no run. -/
theorem freeAt_iff (ht : TablesOk s) (start n : Nat) : FreeAt s start n ↔
    start + n ≤ 65536 ∧
      ∀ a ∈ runsOf s.store.segments, ∀ i, start ≤ i → i < start + n → ¬ (a.1 ≤ i ∧ i < a.1 + a.2) := by
  refine and_congr_right fun _ => ⟨fun h a ha i hlow hhigh => ?_, fun h i hlow hhigh g r hr => ?_⟩
  · obtain ⟨e, he, rfl⟩ := (mem_runsOf _ _).mp ha
    have := h i hlow hhigh e.1 e.2 ((ht.segment_iff _ _).mpr he)
    rwa [← inRun_iff, Bool.not_eq_true]
  · have := h _ ((mem_runsOf _ _).mpr ⟨_, (ht.segment_iff g r).mp hr, rfl⟩) i hlow hhigh
    rwa [← Bool.not_eq_true, inRun_iff]

/-- A free stretch is free, and so is its beginning. -/
theorem RunsOk.freeAt_of_gap (ht : TablesOk s) (h : RunsOk s) {g : Nat × Nat}
    (hg : g ∈ freeStretches s.store.segments) {n : Nat} (hn : n ≤ g.2) : FreeAt s g.1 n := by
  obtain ⟨-, hend, hapart⟩ := (h.laid ht).gap_free g hg
  refine (freeAt_iff ht _ _).mpr ⟨by omega, fun a ha i hlow hhigh => ?_⟩
  have := hapart a ha
  omega

/-- A free place of one slot or more lies in a free stretch. -/
theorem RunsOk.exists_gap (ht : TablesOk s) (h : RunsOk s) {k n : Nat} (hn : 1 ≤ n) (hf : FreeAt s k n) :
    ∃ g ∈ freeStretches s.store.segments, g.1 ≤ k ∧ k + n ≤ g.1 + g.2 := by
  obtain ⟨hend, hfree⟩ := (freeAt_iff ht _ _).mp hf
  exact (h.laid ht).exists_gap hn (Nat.zero_le _) hend hfree

/-- First fit finds nothing exactly when no place is free (R10). -/
theorem RunsOk.firstFit_none (ht : TablesOk s) (h : RunsOk s) {n : Nat} (hnone : ∀ start, ¬ FreeAt s start n) : firstFit s.store.segments n = none := by
  rw [firstFit, Option.map_eq_none_iff, List.find?_eq_none]
  intro g hg hfits
  exact hnone g.1 (h.freeAt_of_gap ht hg (of_decide_eq_true hfits))

/-- First fit finds the start of a free place (R10). -/
theorem RunsOk.firstFit_free (ht : TablesOk s) (h : RunsOk s) {n start : Nat}
    (hfit : firstFit s.store.segments n = some start) : FreeAt s start n := by
  obtain ⟨g, hg, rfl⟩ := Option.map_eq_some_iff.mp hfit
  have hlen := List.find?_some hg
  exact h.freeAt_of_gap ht (List.mem_of_find?_eq_some hg) (of_decide_eq_true hlen)

/-- First fit finds the lowest free place (R10). -/
theorem RunsOk.firstFit_lowest (ht : TablesOk s) (h : RunsOk s) {n start : Nat} (hn : 1 ≤ n)
    (hfree : FreeAt s start n) (hlow : ∀ k, k < start → ¬ FreeAt s k n) :
    firstFit s.store.segments n = some start := by
  obtain ⟨g, hg, hg1, hg2⟩ := h.exists_gap ht hn hfree
  have hstart : g.1 = start := by
    by_contra hne
    exact hlow g.1 (by omega) (h.freeAt_of_gap ht hg (by omega))
  have hsome : ((freeStretches s.store.segments).find? fun g => decide (n ≤ g.2)).isSome := by
    rw [List.find?_isSome]; exact ⟨g, hg, decide_eq_true (by omega)⟩
  obtain ⟨f, hf⟩ := Option.isSome_iff_exists.mp hsome
  have hlen := List.find?_some hf
  have hffree := h.freeAt_of_gap ht (List.mem_of_find?_eq_some hf) (of_decide_eq_true hlen)
  have hfg : f.1 ≤ g.1 := by
    obtain ⟨-, before, after, hsplit, hbefore⟩ := List.find?_eq_some_iff_append.mp hf
    have horder : (before ++ f :: after).Pairwise fun a b => a.1 ≤ b.1 :=
      hsplit ▸ (h.laid ht).gaps_ordered
    rcases List.mem_append.mp (hsplit ▸ hg) with hin | hin
    · have := hbefore g hin
      simp only [Bool.not_eq_true', decide_eq_false_iff_not] at this
      omega
    · rcases List.mem_cons.mp hin with rfl | hin
      · exact le_rfl
      · exact (List.pairwise_cons.mp (List.pairwise_append.mp horder).2.1).1 g hin
  have hle : start ≤ f.1 := by
    by_contra hlt
    exact hlow f.1 (by omega) hffree
  rw [firstFit, hf, Option.map_some, Option.some.injEq]
  omega

/-- The larger figure is the length of a free place, and of no longer one (R3). -/
theorem RunsOk.largestFree_spec (ht : TablesOk s) (h : RunsOk s) :
    (∃ start, FreeAt s start s.store.largestFree) ∧ ∀ start n, FreeAt s start n → n ≤ s.store.largestFree := by
  rw [h.largestFree]
  refine ⟨?_, fun start n hfree => ?_⟩
  · rcases foldl_max_eq_or_mem ((freeStretches s.store.segments).map Prod.snd) 0 with hzero | hmem
    · refine ⟨0, (freeAt_iff ht _ _).mpr ?_⟩
      rw [longestFree, hzero]
      exact ⟨by omega, fun _ _ _ _ _ => by omega⟩
    · obtain ⟨g, hg, hlen⟩ := List.mem_map.mp hmem
      exact ⟨g.1, h.freeAt_of_gap ht hg hlen.ge⟩
  · rcases Nat.eq_zero_or_pos n with rfl | hn
    · exact Nat.zero_le _
    · obtain ⟨g, hg, hg1, hg2⟩ := h.exists_gap ht hn hfree
      have := (le_foldl_max ((freeStretches s.store.segments).map Prod.snd) 0).2 g.2 (List.mem_map_of_mem hg)
      rw [longestFree]; omega

/-- The lengths of the runs in order are those of the segments. -/
theorem runsOf_sum (segs : Table Segment) :
    ((runsOf segs).map Prod.snd).sum = (segs.map fun e => e.2.itemCount).sum := by
  rw [runsOf, ((sortBy_perm _ _).map _).sum_eq, List.map_map]; rfl

/-- The free figure counts the slots outside the runs (R3). -/
theorem countFree_eq (segs : Table Segment) : countFree segs = 65536 - (segs.map fun e => e.2.itemCount).sum := by
  rw [countFree, ← List.sum_eq_foldl]

/-- A free place is within the free figure (R3). -/
theorem RunsOk.freeAt_le (ht : TablesOk s) (h : RunsOk s) {start n : Nat} (hfree : FreeAt s start n) :
    n + (s.store.segments.map fun e => e.2.itemCount).sum ≤ 65536 := by
  have hsum := (h.laid ht).gaps_sum
  rw [runsOf_sum] at hsum
  rcases Nat.eq_zero_or_pos n with rfl | hn
  · omega
  · obtain ⟨g, hg, hg1, hg2⟩ := h.exists_gap ht hn hfree
    have := List.single_le_sum (fun _ _ => Nat.zero_le _) g.2 (List.mem_map_of_mem (f := Prod.snd) hg)
    rw [freeStretches] at this
    omega

end

end Sys2Proof.Machine
end

section
/-! What a change of the state keeps, said once for every command: the invariants of Safety.lean, the parts no command but
its own may touch, and the edges of the live conditions. A change is either quiet, when no condition moves, or noted by
`withEdges`; commands are chains of such changes. -/

namespace Sys2Proof.Machine

/-! ### The invariants (R67, R46, R175, R29, R1, R3) -/

/-- A change from s to t keeps the invariants that hold block by block. -/
structure Keeps (s t : State) : Prop where
  pool : PoolOk s → PoolOk t
  tables : TablesOk s → TablesOk t
  runs : TablesOk s → RunsOk s → RunsOk t
  queues : OptionsOk s.opts → QueuesOk s → QueuesOk t
  options : OptionsOk s.opts → OptionsOk t.opts
  tallies : TalliesOk s → TalliesOk t

theorem Keeps.refl (s : State) : Keeps s s := ⟨id, id, fun _ h => h, fun _ h => h, id, id⟩

theorem Keeps.trans {s t u : State} (h : Keeps s t) (k : Keeps t u) : Keeps s u where
  pool hs := k.pool (h.pool hs)
  tables hs := k.tables (h.tables hs)
  runs ht hs := k.runs (h.tables ht) (h.runs ht hs)
  queues ho hs := k.queues (h.options ho) (h.queues ho hs)
  options hs := k.options (h.options hs)
  tallies hs := k.tallies (h.tallies hs)

/-- A Sighting Queue within its bounds (R46, R48). -/
def QueueFits (q : List Entry) : Prop := q.length ≤ 64 ∧ q.countP isSighting ≤ 60

/-- A lane record keeps the bounds of its queue and of its tallies. -/
structure LaneKeeps (r r' : Lane) : Prop where
  queue : QueueFits r.queue → QueueFits r'.queue
  voidTally : r.voidTally ≤ 4294967295 → r'.voidTally ≤ 4294967295
  dropTally : r.dropTally ≤ 4294967295 → r'.dropTally ≤ 4294967295

/-! ### The parts with commands of their own -/

/-- The parts of the state that only commands of their own change. -/
inductive Part where
  | weights | time | clockSet | opts | windows | resetPin | fieldSignal | trunkSignal
  /-- What binds lanes, contexts, segments and the Settle Queue to each other (R24, R66, R79). -/
  | claims

/-- What a context says of its segment and its owner. -/
def contextClaim (ctx : Context) : Nat × ContextPhase := (ctx.segment, ctx.phase)

/-- Lanes, contexts, segments and the Settle Queue are bound to each other in t as in s: nothing that R24, R66, R79, R100
and R101 speak of differs. -/
structure SameClaims (s t : State) : Prop where
  lanes : ∀ l, currentSegment (t.lane l).mode = currentSegment (s.lane l).mode
  contexts : ∀ c, (t.context c).map contextClaim = (s.context c).map contextClaim
  counts : TablesOk s → ∀ g c, countsIn t g c ↔ countsIn s g c
  settles : TablesOk s → ∀ g c, settlesIn t g c ↔ settlesIn s g c
  inSettle : inSettleList t.settle.engine = inSettleList s.settle.engine
  queue : t.settle.queue = s.settle.queue
  idle : t.settle.engine = .idle ↔ s.settle.engine = .idle
  taking : t.settle.engine = .taking ↔ s.settle.engine = .taking

theorem SameClaims.refl (s : State) : SameClaims s s :=
  ⟨fun _ => rfl, fun _ => rfl, fun _ _ _ => .rfl, fun _ _ _ => .rfl, rfl, rfl, .rfl, .rfl⟩

theorem SameClaims.trans {s t u : State} (htables : TablesOk s → TablesOk t) (h : SameClaims s t)
    (k : SameClaims t u) : SameClaims s u where
  lanes l := (k.lanes l).trans (h.lanes l)
  contexts c := (k.contexts c).trans (h.contexts c)
  counts hs g c := (k.counts (htables hs) g c).trans (h.counts hs g c)
  settles hs g c := (k.settles (htables hs) g c).trans (h.settles hs g c)
  inSettle := k.inSettle.trans h.inSettle
  queue := k.queue.trans h.queue
  idle := k.idle.trans h.idle
  taking := k.taking.trans h.taking

/-- A change from s to t leaves the parts it does not own. -/
structure Frame (own : Part → Prop) (s t : State) : Prop where
  pending : t.pending = s.pending
  weights : ¬ own .weights → t.weights = s.weights
  time : ¬ own .time → t.clock.value = s.clock.value
  clockSet : ¬ own .clockSet → t.clock.set = s.clock.set
  opts : ¬ own .opts → t.opts = s.opts
  windows : ¬ own .windows → ∀ l, (t.lane l).base = (s.lane l).base ∧ (t.lane l).limit = (s.lane l).limit
  resetPin : ¬ own .resetPin → t.resetPin = s.resetPin
  fieldSignal : ¬ own .fieldSignal → t.field.signal = s.field.signal
  trunkSignal : ¬ own .trunkSignal → t.trunk.signal = s.trunk.signal
  claims : ¬ own .claims → SameClaims s t

theorem Frame.refl (own : Part → Prop) (s : State) : Frame own s s :=
  ⟨rfl, fun _ => rfl, fun _ => rfl, fun _ => rfl, fun _ => rfl, fun _ _ => ⟨rfl, rfl⟩, fun _ => rfl, fun _ => rfl,
    fun _ => rfl, fun _ => .refl s⟩

theorem Frame.trans {own : Part → Prop} {s t u : State} (htables : TablesOk s → TablesOk t) (h : Frame own s t)
    (k : Frame own t u) : Frame own s u where
  pending := k.pending.trans h.pending
  weights ho := (k.weights ho).trans (h.weights ho)
  time ho := (k.time ho).trans (h.time ho)
  clockSet ho := (k.clockSet ho).trans (h.clockSet ho)
  opts ho := (k.opts ho).trans (h.opts ho)
  windows ho l := ⟨(k.windows ho l).1.trans (h.windows ho l).1, (k.windows ho l).2.trans (h.windows ho l).2⟩
  resetPin ho := (k.resetPin ho).trans (h.resetPin ho)
  fieldSignal ho := (k.fieldSignal ho).trans (h.fieldSignal ho)
  trunkSignal ho := (k.trunkSignal ho).trans (h.trunkSignal ho)
  claims ho := (h.claims ho).trans htables (k.claims ho)

theorem Frame.mono {own own' : Part → Prop} {s t : State} (h : Frame own s t) (hle : ∀ p, own p → own' p) :
    Frame own' s t where
  pending := h.pending
  weights ho := h.weights (mt (hle _) ho)
  time ho := h.time (mt (hle _) ho)
  clockSet ho := h.clockSet (mt (hle _) ho)
  opts ho := h.opts (mt (hle _) ho)
  windows ho := h.windows (mt (hle _) ho)
  resetPin ho := h.resetPin (mt (hle _) ho)
  fieldSignal ho := h.fieldSignal (mt (hle _) ho)
  trunkSignal ho := h.trunkSignal (mt (hle _) ho)
  claims ho := h.claims (mt (hle _) ho)

/-! ### Changes of one block -/

/-- A change of the blocks that makes no edges yet: it keeps the invariants, the parts it does not own and the notices. -/
structure Change (own : Part → Prop) (s t : State) : Prop extends Keeps s t, Frame own s t where
  notices : t.notices = s.notices

section
variable {own : Part → Prop} {s t u : State}

theorem Change.trans (h : Change own s t) (k : Change own t u) : Change own s u where
  toKeeps := h.toKeeps.trans k.toKeeps
  toFrame := h.toFrame.trans h.tables k.toFrame
  notices := k.notices.trans h.notices

/-- The lanes replaced. -/
theorem Change.setLanes (L : LaneTable) (hkeeps : ∀ l : Fin 8, LaneKeeps (s.lane l) L.recs[l.val])
    (hwindow : ¬ own .windows → ∀ l : Fin 8, L.recs[l.val].base = (s.lane l).base ∧ L.recs[l.val].limit = (s.lane l).limit)
    (hclaims : ¬ own .claims → ∀ l : Fin 8, currentSegment L.recs[l.val].mode = currentSegment (s.lane l).mode) :
    Change own s { s with lanes := L } where
  pool h := ⟨h.conserved, h.capped⟩
  tables h := ⟨h.segments, h.items, h.tagIndex⟩
  runs _ h := ⟨h.numbers, h.counts, h.inside, h.apart, h.freeCount, h.largestFree⟩
  queues _ h := ⟨fun l => (hkeeps l).queue (h.sighting l), h.deferred, h.findings, h.fieldOut, h.requests⟩
  options := id
  tallies h := ⟨fun l => ⟨(hkeeps l).voidTally (h.lanes l).1, (hkeeps l).dropTally (h.lanes l).2⟩, h.circ, h.findings,
    h.ports, h.requests⟩
  toFrame := { Frame.refl own s with
    windows := hwindow
    claims := fun ho => { SameClaims.refl s with lanes := hclaims ho } }
  notices := rfl

/-- One lane replaced. -/
theorem Change.setLane (l : Fin 8) (r : Lane) (hkeeps : LaneKeeps (s.lane l) r)
    (hwindow : ¬ own .windows → r.base = (s.lane l).base ∧ r.limit = (s.lane l).limit)
    (hclaims : ¬ own .claims → currentSegment r.mode = currentSegment (s.lane l).mode) :
    Change own s (s.setLane l r) := by
  have hlane := fun m => State.setLane_lane s l m r
  refine Change.setLanes _ (fun m => ?_) (fun ho m => ?_) fun ho m => ?_
  · change LaneKeeps _ ((s.setLane l r).lane m)
    rw [hlane]; split
    next h => exact h ▸ hkeeps
    next => exact ⟨id, id, id⟩
  · change ((s.setLane l r).lane m).base = _ ∧ ((s.setLane l r).lane m).limit = _
    rw [hlane]; split
    next h => exact h ▸ hwindow ho
    next => exact ⟨rfl, rfl⟩
  · change currentSegment ((s.setLane l r).lane m).mode = _
    rw [hlane]; split
    next h => exact h ▸ hclaims ho
    next => rfl

/-- The Field Port replaced. -/
theorem Change.setField (p : FieldPort) (hsignal : ¬ own .fieldSignal → p.signal = s.field.signal)
    (hout : s.field.out.length ≤ 16 → p.out.length ≤ 16)
    (hdiscards : s.field.discards ≤ 4294967295 → p.discards ≤ 4294967295)
    (hdrops : s.field.outDrops ≤ 4294967295 → p.outDrops ≤ 4294967295) : Change own s { s with field := p } where
  pool h := ⟨h.conserved, h.capped⟩
  tables h := ⟨h.segments, h.items, h.tagIndex⟩
  runs _ h := ⟨h.numbers, h.counts, h.inside, h.apart, h.freeCount, h.largestFree⟩
  queues _ h := ⟨h.sighting, h.deferred, h.findings, hout h.fieldOut, h.requests⟩
  options := id
  tallies h := ⟨h.lanes, h.circ, h.findings, ⟨hdiscards h.ports.1, h.ports.2.1, hdrops h.ports.2.2⟩, h.requests⟩
  toFrame := { Frame.refl own s with
    fieldSignal := hsignal
    claims := fun _ => { SameClaims.refl s with } }
  notices := rfl

/-- The Trunk Port replaced. -/
theorem Change.setTrunk (p : TrunkPort) (hsignal : ¬ own .trunkSignal → p.signal = s.trunk.signal)
    (hdiscards : s.trunk.discards ≤ 4294967295 → p.discards ≤ 4294967295) : Change own s { s with trunk := p } where
  pool h := ⟨h.conserved, h.capped⟩
  tables h := ⟨h.segments, h.items, h.tagIndex⟩
  runs _ h := ⟨h.numbers, h.counts, h.inside, h.apart, h.freeCount, h.largestFree⟩
  queues _ h := ⟨h.sighting, h.deferred, h.findings, h.fieldOut, h.requests⟩
  options := id
  tallies h := ⟨h.lanes, h.circ, h.findings, ⟨h.ports.1, hdiscards h.ports.2.1, h.ports.2.2⟩, h.requests⟩
  toFrame := { Frame.refl own s with
    trunkSignal := hsignal
    claims := fun _ => { SameClaims.refl s with } }
  notices := rfl

/-- The Shelf List Store replaced. -/
theorem Change.setStore (st : Store) (htables : TablesOk s → TablesOk { s with store := st })
    (hruns : TablesOk s → RunsOk s → RunsOk { s with store := st })
    (hcounts : ¬ own .claims → TablesOk s → ∀ g c,
      (countsIn { s with store := st } g c ↔ countsIn s g c) ∧ (settlesIn { s with store := st } g c ↔ settlesIn s g c)) :
    Change own s { s with store := st } where
  pool h := ⟨h.conserved, h.capped⟩
  tables := htables
  runs := hruns
  queues _ h := ⟨h.sighting, h.deferred, h.findings, h.fieldOut, h.requests⟩
  options := id
  tallies h := ⟨h.lanes, h.circ, h.findings, h.ports, h.requests⟩
  toFrame := { Frame.refl own s with
    claims := fun ho => { SameClaims.refl s with
      counts := fun h g c => (hcounts ho h g c).1
      settles := fun h g c => (hcounts ho h g c).2 } }
  notices := rfl

/-- The Count Context Pool replaced. -/
theorem Change.setPool (p : ContextPool) (hpool : PoolOk s → PoolOk { s with pool := p })
    (hclaims : ¬ own .claims → ∀ c : Fin 16, (p.contexts[c.val]).map contextClaim = (s.context c).map contextClaim) :
    Change own s { s with pool := p } where
  pool := hpool
  tables h := ⟨h.segments, h.items, h.tagIndex⟩
  runs _ h := ⟨h.numbers, h.counts, h.inside, h.apart, h.freeCount, h.largestFree⟩
  queues _ h := ⟨h.sighting, h.deferred, h.findings, h.fieldOut, h.requests⟩
  options := id
  tallies h := ⟨h.lanes, h.circ, h.findings, h.ports, h.requests⟩
  toFrame := { Frame.refl own s with
    claims := fun ho => { SameClaims.refl s with contexts := hclaims ho } }
  notices := rfl

/-- The Settle Queue and the engine replaced. -/
theorem Change.setSettle (x : SettleUnit) (hclaims : ¬ own .claims → SameClaims s { s with settle := x }) :
    Change own s { s with settle := x } where
  pool h := ⟨h.conserved, h.capped⟩
  tables h := ⟨h.segments, h.items, h.tagIndex⟩
  runs _ h := ⟨h.numbers, h.counts, h.inside, h.apart, h.freeCount, h.largestFree⟩
  queues _ h := ⟨h.sighting, h.deferred, h.findings, h.fieldOut, h.requests⟩
  options := id
  tallies h := ⟨h.lanes, h.circ, h.findings, h.ports, h.requests⟩
  toFrame := { Frame.refl own s with claims := hclaims }
  notices := rfl

/-- The Circulation Unit replaced. -/
theorem Change.setCirc (x : CirculationUnit) (hlen : s.circ.deferred.length ≤ 32 → x.deferred.length ≤ 32)
    (htallies : TalliesOk s → x.applied ≤ 4294967295 ∧ x.deferredTally ≤ 4294967295 ∧ x.ignored ≤ 4294967295 ∧
      x.dropped ≤ 4294967295) : Change own s { s with circ := x } where
  pool h := ⟨h.conserved, h.capped⟩
  tables h := ⟨h.segments, h.items, h.tagIndex⟩
  runs _ h := ⟨h.numbers, h.counts, h.inside, h.apart, h.freeCount, h.largestFree⟩
  queues _ h := ⟨h.sighting, hlen h.deferred, h.findings, h.fieldOut, h.requests⟩
  options := id
  tallies h := ⟨h.lanes, htallies h, h.findings, h.ports, h.requests⟩
  toFrame := { Frame.refl own s with claims := fun _ => { SameClaims.refl s with } }
  notices := rfl

/-- The Findings Queue replaced. -/
theorem Change.setFindq (x : FindingsQueue)
    (hlen : OptionsOk s.opts → s.findq.records.length ≤ 256 → x.records.length ≤ 256)
    (htally : s.findq.lostTally ≤ 4294967295 → x.lostTally ≤ 4294967295) : Change own s { s with findq := x } where
  pool h := ⟨h.conserved, h.capped⟩
  tables h := ⟨h.segments, h.items, h.tagIndex⟩
  runs _ h := ⟨h.numbers, h.counts, h.inside, h.apart, h.freeCount, h.largestFree⟩
  queues ho h := ⟨h.sighting, h.deferred, hlen ho h.findings, h.fieldOut, h.requests⟩
  options := id
  tallies h := ⟨h.lanes, h.circ, htally h.findings, h.ports, h.requests⟩
  toFrame := { Frame.refl own s with claims := fun _ => { SameClaims.refl s with } }
  notices := rfl

/-- The Request Queue replaced. -/
theorem Change.setRequests (x : RequestQueue) (hlen : s.requests.slots.length ≤ 8 → x.slots.length ≤ 8)
    (htally : s.requests.discards ≤ 4294967295 → x.discards ≤ 4294967295) :
    Change own s { s with requests := x } where
  pool h := ⟨h.conserved, h.capped⟩
  tables h := ⟨h.segments, h.items, h.tagIndex⟩
  runs _ h := ⟨h.numbers, h.counts, h.inside, h.apart, h.freeCount, h.largestFree⟩
  queues _ h := ⟨h.sighting, h.deferred, h.findings, h.fieldOut, hlen h.requests⟩
  options := id
  tallies h := ⟨h.lanes, h.circ, h.findings, h.ports, htally h.requests⟩
  toFrame := { Frame.refl own s with claims := fun _ => { SameClaims.refl s with } }
  notices := rfl

/-- The option words replaced. -/
theorem Change.setOpts (x : Options) (hopts : own .opts) (hrange : OptionsOk s.opts → OptionsOk x) :
    Change own s { s with opts := x } where
  pool h := ⟨h.conserved, h.capped⟩
  tables h := ⟨h.segments, h.items, h.tagIndex⟩
  runs _ h := ⟨h.numbers, h.counts, h.inside, h.apart, h.freeCount, h.largestFree⟩
  queues _ h := ⟨h.sighting, h.deferred, h.findings, h.fieldOut, h.requests⟩
  options := hrange
  tallies h := ⟨h.lanes, h.circ, h.findings, h.ports, h.requests⟩
  toFrame := { Frame.refl own s with
    opts := fun ho => absurd hopts ho
    claims := fun _ => { SameClaims.refl s with } }
  notices := rfl

/-- Clock, knots and reset input replaced: no invariant speaks of them. -/
theorem Change.setConfig (k : Vector (BitVec 16) 17) (x : Clock) (pin : Bool)
    (hweights : ¬ own .weights → k = s.weights) (htime : ¬ own .time → x.value = s.clock.value)
    (hset : ¬ own .clockSet → x.set = s.clock.set) (hpin : ¬ own .resetPin → pin = s.resetPin) :
    Change own s { s with weights := k, clock := x, resetPin := pin } where
  pool h := ⟨h.conserved, h.capped⟩
  tables h := ⟨h.segments, h.items, h.tagIndex⟩
  runs _ h := ⟨h.numbers, h.counts, h.inside, h.apart, h.freeCount, h.largestFree⟩
  queues _ h := ⟨h.sighting, h.deferred, h.findings, h.fieldOut, h.requests⟩
  options := id
  tallies h := ⟨h.lanes, h.circ, h.findings, h.ports, h.requests⟩
  toFrame := { Frame.refl own s with
    weights := hweights
    time := htime
    clockSet := hset
    resetPin := hpin
    claims := fun _ => { SameClaims.refl s with } }
  notices := rfl

end

/-! ### Edges of the live conditions (R183, R184) -/

/-- The latches and the waiting NOTICE in t are those that the edges from s to t leave: latches and a waiting NOTICE stay,
an enabled edge has set its latch, and a latch newly set leaves a NOTICE waiting. -/
structure Edges (s t : State) : Prop where
  latched : ∀ n, s.notices.latches.getLsbD n = true → t.notices.latches.getLsbD n = true
  waiting : s.notices.waiting = true → t.notices.waiting = true
  newly : ∀ n, s.notices.latches.getLsbD n = false → t.notices.latches.getLsbD n = true → t.notices.waiting = true
  rise : ∀ n, (liveConditions s).getLsbD n = false → (liveConditions t).getLsbD n = true →
    t.opts.noticeRise.getLsbD n = true → t.notices.latches.getLsbD n = true
  fall : ∀ n, n < 21 → (liveConditions s).getLsbD n = true → (liveConditions t).getLsbD n = false →
    t.opts.noticeFall.getLsbD n = true → t.notices.latches.getLsbD n = true

/-- A bit of the latches after edges (R183). -/
theorem latchEdges_getLsbD (o : Options) (latches old new : Conditions) {n : Nat} (hn : n < 21) :
    (latchEdges o latches old new).getLsbD n = true ↔ latches.getLsbD n = true ∨
      (old.getLsbD n = false ∧ new.getLsbD n = true ∧ o.noticeRise.getLsbD n = true) ∨
      (old.getLsbD n = true ∧ new.getLsbD n = false ∧ o.noticeFall.getLsbD n = true) := by
  simp only [latchEdges, BitVec.getLsbD_or, BitVec.getLsbD_and, BitVec.getLsbD_not, hn, decide_true, Bool.true_and,
    Bool.or_eq_true, Bool.and_eq_true, Bool.not_eq_true', or_assoc]
  tauto

/-- Latches that differ after edges have one newly set. -/
theorem latchEdges_ne_iff (o : Options) (latches old new : Conditions) :
    latchEdges o latches old new ≠ latches ↔
      ∃ n, n < 21 ∧ latches.getLsbD n = false ∧ (latchEdges o latches old new).getLsbD n = true := by
  constructor
  · intro hne
    by_contra hnone
    refine hne (BitVec.eq_of_getLsbD_eq fun n hn => ?_)
    cases hl : latches.getLsbD n with
    | true => exact (latchEdges_getLsbD o latches old new hn).mpr (.inl hl)
    | false => exact Bool.eq_false_iff.mpr fun hb => hnone ⟨n, hn, hl, hb⟩
  · rintro ⟨n, -, hclear, hset⟩ heq
    rw [heq, hclear] at hset
    exact Bool.false_ne_true hset

/-- A bit of the conditions that is set is one of the 21. -/
theorem lt_of_getLsbD {c : Conditions} {n : Nat} (h : c.getLsbD n = true) : n < 21 := BitVec.lt_of_getLsbD h

section
variable {s t u : State}

/-- Edges one after another: with the enable words standing, or with no condition moved before they change. -/
theorem Edges.trans (h : Edges s t) (k : Edges t u) (hopts : u.opts = t.opts ∨ liveConditions t = liveConditions s) :
    Edges s u where
  latched n hn := k.latched n (h.latched n hn)
  waiting hw := k.waiting (h.waiting hw)
  newly n hs hu := by
    cases ht : t.notices.latches.getLsbD n with
    | false => exact k.newly n ht hu
    | true => exact k.waiting (h.newly n hs ht)
  rise n hs hu he := by
    cases ht : (liveConditions t).getLsbD n with
    | false => exact k.rise n ht hu he
    | true =>
      rcases hopts with ho | ho
      · exact k.latched n (h.rise n hs ht (ho ▸ he))
      · rw [ho, hs] at ht; exact absurd ht Bool.false_ne_true
  fall n hn hs hu he := by
    cases ht : (liveConditions t).getLsbD n with
    | true => exact k.fall n hn ht hu he
    | false =>
      rcases hopts with ho | ho
      · exact k.latched n (h.fall n hn hs ht (ho ▸ he))
      · rw [ho, hs] at ht; exact absurd ht.symm Bool.false_ne_true

/-- No condition and no notice has moved. -/
theorem Edges.of_same (hn : t.notices = s.notices) (hc : liveConditions t = liveConditions s) : Edges s t where
  latched _ h := hn ▸ h
  waiting h := hn ▸ h
  newly _ hs ht := absurd (hs.symm.trans (hn ▸ ht)) Bool.false_ne_true
  rise _ hs ht _ := absurd (hs.symm.trans (hc ▸ ht)) Bool.false_ne_true
  fall _ _ hs ht _ := absurd (ht.symm.trans (hc.symm ▸ hs)) Bool.false_ne_true

/-- Noted edges are edges. -/
theorem Edges.noted (hn : u.notices = s.notices) : Edges s (noteEdges (liveConditions s) u) where
  latched n h := (latchEdges_getLsbD _ _ _ _ (lt_of_getLsbD h)).mpr (.inl (hn ▸ h))
  waiting h := by change (u.notices.waiting || _) = true; rw [hn, h, Bool.true_or]
  newly n hs ht := by
    change (u.notices.waiting || decide (latchEdges u.opts u.notices.latches (liveConditions s) (liveConditions u) ≠
      u.notices.latches)) = true
    rw [Bool.or_eq_true, decide_eq_true_eq, latchEdges_ne_iff]
    exact .inr ⟨n, lt_of_getLsbD ht, hn ▸ hs, ht⟩
  rise n hs ht he := (latchEdges_getLsbD _ _ _ _ (lt_of_getLsbD ht)).mpr (.inr (.inl ⟨hs, ht, he⟩))
  fall n hlt hs ht he := (latchEdges_getLsbD _ _ _ _ hlt).mpr (.inr (.inr ⟨hs, ht, he⟩))

end

/-! ### Moves -/

/-- A change with its edges: it keeps the invariants, the parts it does not own, and what R183 and R184 lay down. -/
structure Move (own : Part → Prop) (s t : State) : Prop extends Keeps s t, Frame own s t where
  edges : Edges s t

/-- A move that owns none of the parts. -/
abbrev Plain (s t : State) : Prop := Move (fun _ => False) s t

section
variable {own : Part → Prop} {s t u : State}

theorem Move.refl (s : State) : Move own s s := ⟨.refl s, .refl own s, .of_same rfl rfl⟩

/-- Moves one after another; a move of the option words stands behind quiet ones. -/
theorem Move.andThen (h : Move own s t) (k : Move own t u) (hopts : own .opts → liveConditions t = liveConditions s) :
    Move own s u where
  toKeeps := h.toKeeps.trans k.toKeeps
  toFrame := h.toFrame.trans h.tables k.toFrame
  edges := h.edges.trans k.edges <| by
    by_cases ho : own .opts
    · exact .inr (hopts ho)
    · exact .inl (k.opts ho)

theorem Move.mono {own' : Part → Prop} (h : Move own s t) (hle : ∀ p, own p → own' p) : Move own' s t :=
  ⟨h.toKeeps, h.toFrame.mono hle, h.edges⟩

/-- A plain move owns less than any. -/
theorem Move.lift (h : Plain s t) : Move own s t := h.mono fun _ => False.elim

/-- A plain move behind a move. -/
theorem Move.plain (h : Move own s t) (k : Plain t u) : Move own s u where
  toKeeps := h.toKeeps.trans k.toKeeps
  toFrame := h.toFrame.trans h.tables (k.toFrame.mono fun _ => False.elim)
  edges := h.edges.trans k.edges (.inl (k.opts id))

/-- A move of what binds lanes, contexts, segments and the Settle Queue. -/
abbrev Binding (s t : State) : Prop := Move (fun p => p = .claims) s t

/-- Bindings moved behind a move that owns them. -/
theorem Move.binding (h : Move own s t) (k : Binding t u) (ho : own .claims) : Move own s u where
  toKeeps := h.toKeeps.trans k.toKeeps
  toFrame := h.toFrame.trans h.tables (k.toFrame.mono fun _ hp => hp ▸ ho)
  edges := h.edges.trans k.edges (.inl (k.opts Part.noConfusion))

/-- A change that moves no condition. -/
theorem Change.quiet (h : Change own s t) (hc : liveConditions t = liveConditions s) : Move own s t :=
  ⟨h.toKeeps, h.toFrame, .of_same h.notices hc⟩

/-- The notices are read by no invariant and stand in no part. -/
theorem Change.withNotices (h : Change own s t) (x : Notices) :
    Keeps s { t with notices := x } ∧ Frame own s { t with notices := x } :=
  ⟨{ pool := fun hs => ⟨(h.pool hs).conserved, (h.pool hs).capped⟩
     tables := fun hs => ⟨(h.tables hs).segments, (h.tables hs).items, (h.tables hs).tagIndex⟩
     runs := fun ht hs =>
       have k := h.runs ht hs
       ⟨k.numbers, k.counts, k.inside, k.apart, k.freeCount, k.largestFree⟩
     queues := fun ho hs =>
       have k := h.queues ho hs
       ⟨k.sighting, k.deferred, k.findings, k.fieldOut, k.requests⟩
     options := h.options
     tallies := fun hs =>
       have k := h.tallies hs
       ⟨k.lanes, k.circ, k.findings, k.ports, k.requests⟩ },
   { h.toFrame with claims := fun ho => { h.claims ho with } }⟩

/-- A change that `withEdges` notes. -/
theorem Change.noted {f : State → State} (h : Change own s (f s)) : Move own s (withEdges s f) :=
  have ⟨hkeeps, hframe⟩ := h.withNotices (noteEdges (liveConditions s) (f s)).notices
  ⟨hkeeps, hframe, .noted h.notices⟩

/-- A chain of moves along a list. -/
theorem Move.foldl {α : Type} {f : State → α → State} (hopts : ¬ own .opts) (xs : List α)
    (h : ∀ s x, x ∈ xs → Move own s (f s x)) : Move own s (xs.foldl f s) := by
  induction xs generalizing s with
  | nil => exact .refl s
  | cons x xs ih =>
    exact (h s x List.mem_cons_self).andThen (ih fun t y hy => h t y (List.mem_cons_of_mem _ hy))
      fun ho => absurd ho hopts

end

end Sys2Proof.Machine
end

section
/-! What the shared operations move: lanes, queues, ports, findings, contexts, records and the Request Queue. -/

namespace Sys2Proof.Machine

/-! ### Quiet changes -/

/-- Lanes that stay attached or detached, and paused or not, move no condition. -/
theorem liveConditions_setLanes (s : State) (L : LaneTable)
    (h : ∀ l : Fin 8, attached L.recs[l.val] = attached (s.lane l) ∧ L.recs[l.val].paused = (s.lane l).paused) :
    liveConditions { s with lanes := L } = liveConditions s := by
  have same (f : Lane → Bool) (hf : ∀ l : Fin 8, f L.recs[l.val] = f (s.lane l)) :
      L.recs.toList.map f = s.lanes.recs.toList.map f := by
    refine List.ext_getElem (by simp) fun i hi _ => ?_
    simp only [List.length_map, Vector.length_toList] at hi
    simpa [State.lane] using hf ⟨i, hi⟩
  have hatt := same attached fun l => (h l).1
  have hpaused := same (·.paused) fun l => (h l).2
  unfold liveConditions conditionBits
  rw [hatt, hpaused]; rfl

/-- One such lane moves no condition. -/
theorem liveConditions_setLane (s : State) (l : Fin 8) (r : Lane) (hatt : attached r = attached (s.lane l))
    (hpaused : r.paused = (s.lane l).paused) : liveConditions (s.setLane l r) = liveConditions s := by
  refine liveConditions_setLanes s _ fun m => ?_
  change attached ((s.setLane l r).lane m) = _ ∧ ((s.setLane l r).lane m).paused = _
  rw [State.setLane_lane]; split
  next h => exact h ▸ ⟨hatt, hpaused⟩
  next => exact ⟨rfl, rfl⟩

/-- An engine that stays STALLED or not moves no condition. -/
theorem liveConditions_setEngine (s : State) (x : SettleUnit) (h : stalled x.engine = stalled s.settle.engine) :
    liveConditions { s with settle := x } = liveConditions s := by
  simp only [liveConditions, conditionBits, settleStalled, h]; rfl

section
variable {own : Part → Prop} {s : State}

/-! ### Lanes -/

/-- A tally that is raised keeps its limit (R29). -/
theorem tallyAdd_le (x n : Nat) : tallyAdd x n ≤ 4294967295 := satAdd_le _ _ _

/-- A lane's state replaced (R25). -/
theorem setMode_move (l : Fin 8) (m : LaneMode)
    (hclaims : ¬ own .claims → currentSegment m = currentSegment (s.lane l).mode) : Move own s (s.setMode l m) :=
  Change.noted (Change.setLane l _ ⟨id, id, id⟩ (fun _ => ⟨rfl, rfl⟩) hclaims)

/-- A drop tally raised (R29). -/
theorem raiseDrop_move (l : Fin 8) (n : Nat) : Move own s (raiseDrop s l n) :=
  Change.quiet (.setLane l _ ⟨id, id, fun _ => tallyAdd_le _ _⟩ (fun _ => ⟨rfl, rfl⟩) fun _ => rfl)
    (liveConditions_setLane s l _ rfl rfl)

/-- A flag set leaves everything of the lane but its WAITING state's flag. -/
theorem flagLane_fields (r : Lane) : flagLane r = { r with mode := (flagLane r).mode } ∧
    currentSegment (flagLane r).mode = currentSegment r.mode ∧ attached (flagLane r) = attached r := by
  obtain ⟨m, _, _, _, _, _, _, _⟩ := r
  cases m <;> exact ⟨rfl, rfl, rfl⟩

/-- The flags of the WAITING lanes set (R34). -/
theorem flagWaiting_move : Move own s (flagWaiting s) := by
  have hlane (l : Fin 8) : (flagWaiting s).lanes.recs[l.val] = flagLane (s.lane l) := flagWaiting_lane s l
  have hfields (l : Fin 8) := flagLane_fields (s.lane l)
  refine Change.quiet (.setLanes (flagWaiting s).lanes (fun l => ?_) (fun _ l => ?_) fun _ l => ?_)
    (liveConditions_setLanes s (flagWaiting s).lanes fun l => ?_)
  · rw [hlane, (hfields l).1]; exact ⟨id, id, id⟩
  · rw [hlane, (hfields l).1]; exact ⟨rfl, rfl⟩
  · rw [hlane]; exact (hfields l).2.1
  · rw [hlane]; exact ⟨(hfields l).2.2, by rw [(hfields l).1]⟩

/-- The next-lane pointer moved (R30). -/
theorem servedLane_move (l : Fin 8) : Move own s (servedLane s l) :=
  Change.quiet (.setLanes _ (fun _ => ⟨id, id, id⟩) (fun _ _ => ⟨rfl, rfl⟩) fun _ _ => rfl) rfl

/-- A lane's queue, drop tally and overrun flag replaced. -/
theorem setQueue_move (l : Fin 8) (r : Lane) (hkeeps : LaneKeeps (s.lane l) r)
    (hsame : r = { s.lane l with queue := r.queue, overrun := r.overrun, dropTally := r.dropTally,
                                 voidTally := r.voidTally }) : Move own s (s.setLane l r) := by
  have hmode : r.mode = (s.lane l).mode := by rw [hsame]
  have hpaused : r.paused = (s.lane l).paused := by rw [hsame]
  have hwindow : r.base = (s.lane l).base ∧ r.limit = (s.lane l).limit := by rw [hsame]; exact ⟨rfl, rfl⟩
  have hattached : attached r = attached (s.lane l) := by unfold attached; rw [hmode]
  exact (Change.setLane l r hkeeps (fun _ => hwindow) fun _ => congrArg currentSegment hmode).quiet
    (liveConditions_setLane s l r hattached hpaused)

/-! ### Ports -/

/-- A control signal handed on (R166). -/
theorem handSignal_change (l : Fin 8) (sig : Option Signal) : Change own s (handSignal s l sig) :=
  .setField _ (fun _ => rfl) id id id

/-- A frame offered to the Field-Out Queue (R167). -/
theorem offerFieldOut_move (f : OutFrame) : Move own s (offerFieldOut s f) := by
  unfold offerFieldOut
  split
  next h =>
    refine Change.quiet (.setField _ (fun _ => rfl) (fun _ => ?_) id id) rfl
    rw [List.length_append]; exact h
  next => exact Change.quiet (.setField _ (fun _ => rfl) id id fun _ => tallyAdd_le _ _) rfl

/-- A frame discarded by the Field Port (R160). -/
theorem discardField_move : Move own s (discardField s) :=
  Change.quiet (.setField _ (fun _ => rfl) id (fun _ => tallyAdd_le _ _) id) rfl

/-- A frame discarded by the Trunk Port (R160). -/
theorem discardTrunk_move : Move own s (discardTrunk s) :=
  Change.quiet (.setTrunk _ (fun _ => rfl) fun _ => tallyAdd_le _ _) rfl

/-- A lane frame moves what its act moves. -/
theorem takeLaneFrame_move (lane : Nat) (ok : Bool) {act : Fin 8 → State → State} (h : ∀ l, Move own s (act l s)) :
    Move own s (takeLaneFrame s lane ok act) := by
  rcases takeLaneFrame_cases s lane ok act with ⟨-, hl, -, e⟩ | ⟨-, -, e⟩ | ⟨-, e⟩ <;> rw [e]
  · exact h _
  · exact discardField_move
  · exact .refl s

/-- A trunk frame moves what its act moves. -/
theorem takeTrunkFrame_move (ok : Bool) {act : State → State} (h : Move own s (act s)) :
    Move own s (takeTrunkFrame s ok act) := by
  rcases takeTrunkFrame_cases s ok act with ⟨-, -, e⟩ | ⟨-, -, e⟩ | ⟨-, e⟩ <;> rw [e]
  · exact h
  · exact discardTrunk_move
  · exact .refl s

/-! ### Findings -/

/-- A push by another producer (R147, R152). -/
theorem pushOther_move (f : Finding) : Move own s (pushOther s f) := by
  unfold pushOther
  refine Change.noted ?_
  split
  next h =>
    refine .setFindq _ (fun _ _ => ?_) id
    rw [List.length_append]; exact h
  next => exact .setFindq _ (fun _ => id) fun _ => tallyAdd_le _ _

/-- A push by the Settle Engine with a place free (R116, R148). -/
theorem appendSettle_move (f : Finding) (h : OptionsOk s.opts → s.findq.records.length < 256) :
    Move own s (appendSettle s f) :=
  Change.noted (.setFindq _ (fun ho _ => by rw [List.length_append]; exact h ho) id)

/-- The settle in progress replaced by one of the same segment. -/
theorem setSettle_change (w w' : Settle) (hw : s.settle.engine = .settling w) (hsegment : w'.segment = w.segment) :
    Change own s (s.setSettle w') :=
  .setSettle _ fun _ => { SameClaims.refl s with
    inSettle := by rw [hw]; exact congrArg (fun x => [x]) hsegment
    idle := by simp [hw]
    taking := by simp [hw] }

/-- A RUNNING settle goes on. -/
theorem setSettle_move (w w' : Settle) (hw : s.settle.engine = .settling w) (hsegment : w'.segment = w.segment)
    (hkept : w'.kept = w.kept) : Move own s (s.setSettle w') :=
  (setSettle_change w w' hw hsegment).quiet
    (liveConditions_setEngine s _ (by rw [hw]; exact congrArg Option.isSome hkept))

/-- A RUNNING settle pushes a finding, or keeps it (R116). -/
theorem settlePush_move (w w' : Settle) (f : Finding) (hw : s.settle.engine = .settling w)
    (hsegment : w'.segment = w.segment) (hkept : w'.kept = w.kept) : Plain s (settlePush s w' f) := by
  unfold settlePush
  split
  next h => exact (appendSettle_move f fun _ => h.trans (by decide)).plain (setSettle_move w w' hw hsegment hkept)
  next => exact Change.noted (setSettle_change w _ hw hsegment)

/-- A RUNNING settle goes on with or without a finding (R115, R116). -/
theorem goOn_move (w w' : Settle) (f : Option Finding) (hw : s.settle.engine = .settling w)
    (hsegment : w'.segment = w.segment) (hkept : w'.kept = w.kept) : Plain s (goOn s w' f) := by
  cases f with
  | none => exact setSettle_move w w' hw hsegment hkept
  | some f => exact settlePush_move w w' f hw hsegment hkept

/-! ### Thresholds -/

/-- A lane's paused flag replaced, with the signal handed on (R55, R56). -/
theorem setPaused_change (l : Fin 8) (b : Bool) (sig : Option Signal) :
    Change own s (handSignal (s.setLane l { s.lane l with paused := b }) l sig) :=
  Change.trans (t := s.setLane l { s.lane l with paused := b })
    (.setLane l _ ⟨id, id, id⟩ (fun _ => ⟨rfl, rfl⟩) fun _ => rfl) (handSignal_change l sig)

/-- The pause thresholds of a lane (R55, R56). -/
theorem evalPause_move (l : Fin 8) : Move own s (evalPause s l) := by
  unfold evalPause
  dsimp only
  split
  next => exact Change.noted (setPaused_change l true _)
  next =>
    split
    next => exact Change.noted (setPaused_change l false _)
    next => exact .refl s

/-- The end of an overrun episode (R54). -/
theorem evalOverrunEnd_move (l : Fin 8) : Move own s (evalOverrunEnd s l) := by
  unfold evalOverrunEnd
  dsimp only
  split
  next => exact setQueue_move l _ ⟨id, id, id⟩ rfl
  next => exact .refl s

/-- An entry that finds room joins a queue (R48, R49). -/
theorem enqueue_move (l : Fin 8) (k : EntryKind)
    (hroom : QueueFits (s.lane l).queue → QueueFits ((s.lane l).queue ++ [{ kind := k, gap := false }])) :
    Plain s (enqueue s l k) :=
  Move.plain (t := s.setLane l { s.lane l with queue := (s.lane l).queue ++ [{ kind := k, gap := false }] })
    (setQueue_move l _ ⟨hroom, id, id⟩ rfl) (evalPause_move l)

/-! ### Contexts -/

/-- The sum over a list with one entry replaced. -/
theorem sum_map_set {α : Type} (f : α → Nat) (l : List α) (i : Nat) (x : α) (h : i < l.length) :
    ((l.set i x).map f).sum + f l[i] = (l.map f).sum + f x := by
  induction l generalizing i with
  | nil => exact absurd h (Nat.not_lt_zero i)
  | cons y ys ih =>
    cases i with
    | zero => simp only [List.set_cons_zero, List.map_cons, List.sum_cons, List.getElem_cons_zero]; omega
    | succ i =>
      have := ih i (Nat.lt_of_succ_lt_succ h)
      simp only [List.set_cons_succ, List.map_cons, List.sum_cons, List.getElem_cons_succ]; omega

/-- The observations held, with one context replaced. -/
theorem heldBy_sum_setContext (s : State) (c : Fin 16) (r : Option Context) :
    ((s.setContext c r).pool.contexts.toList.map heldBy).sum + heldBy (s.context c) =
      (s.pool.contexts.toList.map heldBy).sum + heldBy r := by
  have h := sum_map_set heldBy s.pool.contexts.toList c.val r (by simp)
  simpa only [State.setContext, State.context, Vector.toList_set, Vector.getElem_toList] using h

/-- The cap after a context is replaced. -/
theorem PoolOk.capped_setContext (h : PoolOk s) {c : Fin 16} {r : Option Context} (hr : heldBy r ≤ 640) (d : Fin 16) :
    heldBy ((s.setContext c r).context d) ≤ 640 := by
  rw [State.setContext_context]; split
  · exact hr
  · exact h.capped d

/-- A context replaced by one that holds as many observations. -/
theorem PoolOk.setContext {c : Fin 16} {r : Option Context} (hr : heldBy r = heldBy (s.context c)) (h : PoolOk s) :
    PoolOk (s.setContext c r) where
  conserved := by
    have := heldBy_sum_setContext s c r
    have := h.conserved
    rw [State.setContext_freeSlots]; omega
  capped := h.capped_setContext (hr ▸ h.capped c)

/-- A context with as many observations in its place. -/
theorem setContext_change (c : Fin 16) (r : Option Context) (hr : heldBy r = heldBy (s.context c))
    (hclaims : ¬ own .claims → r.map contextClaim = (s.context c).map contextClaim) : Change own s (s.setContext c r) := by
  refine Change.setPool _ (PoolOk.setContext hr) fun ho d => ?_
  change ((s.setContext c r).context d).map contextClaim = _
  rw [State.setContext_context]; split
  next h => exact h ▸ hclaims ho
  next => rfl

/-- The same, as a move. -/
theorem setContext_move (c : Fin 16) (r : Option Context) (hr : heldBy r = heldBy (s.context c))
    (hclaims : ¬ own .claims → r.map contextClaim = (s.context c).map contextClaim) : Move own s (s.setContext c r) :=
  (setContext_change c r hr hclaims).quiet rfl

/-! ### Segment and item records -/

/-- The run of a segment (R3). -/
def runOf (r : Segment) : Nat × Nat := (r.firstItem, r.itemCount)

/-- The runs by segment. -/
def runTable (segs : Table Segment) : Table (Nat × Nat) := segs.map fun e => (e.1, runOf e.2)

/-- The run of a segment is listed under its number. -/
theorem tget_runTable (segs : Table Segment) (g : Nat) : tget (runTable segs) g = (tget segs g).map runOf := by
  induction segs with
  | nil => rfl
  | cons e segs ih =>
    simp only [runTable, List.map_cons, tget] at ih ⊢
    split
    · rfl
    · exact ih

/-- A state with the same runs and free figures is sound in its runs. -/
theorem RunsOk.of_runTable {t : State} (hruns : runTable t.store.segments = runTable s.store.segments)
    (hfree : t.store.freeCount = s.store.freeCount) (hlargest : t.store.largestFree = s.store.largestFree)
    (h : RunsOk s) : RunsOk t := by
  have hlisted (g : Nat) (r : Segment) (hr : t.segment g = some r) : ∃ q, s.segment g = some q ∧ runOf q = runOf r := by
    have hmap : (s.segment g).map runOf = some (runOf r) := by
      rw [State.segment, ← tget_runTable, ← hruns, tget_runTable]
      exact congrArg (Option.map runOf) hr
    exact Option.map_eq_some_iff.mp hmap
  have hcounts : t.store.segments.map (fun e => e.2.itemCount) = s.store.segments.map fun e => e.2.itemCount := by
    have := congrArg (List.map fun e => e.2.2) hruns
    simpa only [runTable, List.map_map, Function.comp_def, runOf] using this
  have hrunsOf : runsOf t.store.segments = runsOf s.store.segments := by
    have := congrArg (List.map fun e => e.2) hruns
    simp only [runTable, List.map_map, Function.comp_def, runOf] at this
    rw [runsOf, this]; rfl
  constructor
  · intro g r hr
    obtain ⟨q, hq, -⟩ := hlisted g r hr
    exact h.numbers g q hq
  · intro g r hr
    obtain ⟨q, hq, hrun⟩ := hlisted g r hr
    obtain ⟨-, hcount⟩ := Prod.mk.inj hrun
    exact hcount ▸ h.counts g q hq
  · intro g r hr
    obtain ⟨q, hq, hrun⟩ := hlisted g r hr
    obtain ⟨hfirst, hcount⟩ := Prod.mk.inj hrun
    have := h.inside g q hq
    omega
  · intro g k r x i hr hx hri hxi
    obtain ⟨q, hq, hrun⟩ := hlisted g r hr
    obtain ⟨y, hy, hrun'⟩ := hlisted k x hx
    obtain ⟨hf, hc⟩ := Prod.mk.inj hrun
    obtain ⟨hf', hc'⟩ := Prod.mk.inj hrun'
    refine h.apart g k q y i hq hy ?_ ?_
    · rw [inRun_iff] at hri ⊢; omega
    · rw [inRun_iff] at hxi ⊢; omega
  · rw [hfree, hcounts]; exact h.freeCount
  · rw [hlargest, h.largestFree, longestFree, longestFree, freeStretches, freeStretches, hrunsOf]

/-- A record written over one with the same run leaves the runs. -/
theorem runTable_tput {segs : Table Segment} (hwf : Table.wf segs) {g : Nat} {q r : Segment}
    (hq : tget segs g = some q) (hrun : runOf r = runOf q) : runTable (tput segs g r) = runTable segs := by
  induction segs with
  | nil => exact absurd hq (by simp [tget])
  | cons e segs ih =>
    obtain ⟨k, v⟩ := e
    obtain ⟨hk, hwf'⟩ := List.pairwise_cons.mp hwf
    simp only [tget] at hq
    split at hq
    next heq =>
      obtain rfl := Option.some.inj hq
      subst heq
      simp [tput, runTable, hrun]
    next hne =>
      have hmem := (tget_eq_some _ hwf' g q).mp hq
      have hlt : k < g := hk g (List.mem_map.mpr ⟨_, hmem, rfl⟩)
      simp only [tput, if_neg (Nat.not_lt.mpr hlt.le), if_neg hne]
      exact congrArg ((k, runOf v) :: ·) (ih hwf' hq)

/-- A segment record written. -/
theorem TablesOk.setSegment (h : TablesOk s) (g : Nat) (r : Segment) : TablesOk (s.setSegment g r) :=
  ⟨tput_wf _ g r h.segments, h.items, h.tagIndex⟩

/-- A segment after another, or it itself, has been written. -/
theorem State.setSegment_segment (s : State) (g h : Nat) (r : Segment) :
    (s.setSegment g r).segment h = if h = g then some r else s.segment h := by
  by_cases e : h = g
  · subst e; simp [State.segment, State.setSegment]
  · rw [if_neg e]; exact tget_tput_other _ _ _ _ e

/-- What a segment's phase claims stays when a phase that claims nothing is put for one that claims nothing. -/
def Phase.free (p : Phase) : Prop := (∀ c, p ≠ .counting c) ∧ ∀ c, p ≠ .settling c

/-- A segment record written over one with the same run. -/
theorem setSegment_change (g : Nat) (q r : Segment) (hq : s.segment g = some q) (hrun : runOf r = runOf q)
    (hclaims : ¬ own .claims → r.phase = q.phase ∨ (r.phase.free ∧ q.phase.free)) : Change own s (s.setSegment g r) := by
  refine .setStore _ (fun h => h.setSegment g r)
    (fun ht h => h.of_runTable (runTable_tput ht.segments hq hrun) rfl rfl) fun ho _ k c => ?_
  have hseg := State.setSegment_segment s g k r
  change (countsIn (s.setSegment g r) k c ↔ _) ∧ (settlesIn (s.setSegment g r) k c ↔ _)
  unfold countsIn settlesIn
  rw [hseg]
  split
  next h =>
    subst h
    rw [hq]
    simp only [Option.some.injEq, exists_eq_left']
    rcases hclaims ho with h | ⟨hr, hq'⟩
    · rw [h]; exact ⟨.rfl, .rfl⟩
    · exact ⟨iff_of_false (hr.1 c) (hq'.1 c), iff_of_false (hr.2 c) (hq'.2 c)⟩
  next => exact ⟨.rfl, .rfl⟩

/-- A segment record written, as a move. -/
theorem setSegment_move (g : Nat) (q r : Segment) (hq : s.segment g = some q) (hrun : runOf r = runOf q)
    (hclaims : ¬ own .claims → r.phase = q.phase ∨ (r.phase.free ∧ q.phase.free)) : Move own s (s.setSegment g r) :=
  (setSegment_change g q r hq hrun hclaims).quiet rfl

/-- A segment's phase replaced. -/
theorem setPhase_move (g : Nat) (p : Phase) : Binding s (s.setPhase g p) := by
  unfold State.setPhase
  split
  next r hr => exact setSegment_move g r _ hr rfl (absurd rfl)
  next => exact .refl s

/-- An item record written. -/
theorem setItem_move (i : Nat) (it : Item) : Move own s (s.setItem i it) :=
  Change.quiet (.setStore _ (fun h => ⟨h.segments, tput_wf _ i it h.items, h.tagIndex⟩)
    (fun _ h => RunsOk.of_runTable (s := s) rfl rfl rfl h) fun _ _ _ _ => ⟨.rfl, .rfl⟩) rfl

/-- Item table and Tag Index replaced by tables of the form. -/
theorem setTables_change (items : Table Item) (index : Table Nat) (hitems : TablesOk s → Table.wf items)
    (hindex : TablesOk s → Table.wf index) :
    Change own s { s with store := { s.store with items := items, tagIndex := index } } :=
  .setStore _ (fun h => ⟨h.segments, hitems h, hindex h⟩) (fun _ h => RunsOk.of_runTable (s := s) rfl rfl rfl h)
    fun _ _ _ _ => ⟨.rfl, .rfl⟩

/-! ### The Request Queue -/

/-- One slot changed leaves their number. -/
theorem changeFirst_length (test : Slot → Bool) (f : Slot → Slot) (slots : List Slot) :
    (changeFirst test f slots).length = slots.length := by
  induction slots with
  | nil => rfl
  | cons x xs ih =>
    unfold changeFirst
    split
    · rfl
    · simp only [List.length_cons, ih]

/-- Slots replaced by as many or fewer. -/
theorem setSlots_move (slots : List Slot) (h : slots.length ≤ s.requests.slots.length) :
    Move own s (s.setSlots slots) :=
  Change.quiet (.setRequests _ h.trans id) rfl

/-- The head request's slot changed (R173). -/
theorem setHead_move (st : Slot → SlotState) : Move own s (setHead s st) :=
  setSlots_move _ (changeFirst_length ..).le

/-- A request that takes no time moves what its effect moves, and its slot (R173). -/
theorem serveNow_move {effect : State → State × Answer} (h : ∀ u, Move own u (effect u).1) :
    Move own s (serveNow s effect) :=
  ((setHead_move _).andThen (h _) fun _ => rfl).plain (setHead_move _)

end

end Sys2Proof.Machine
end

section
/-! What the operations of each block move: closing and opening contexts, admission, lane frames and drains, circulation
events, the stages of a settle, the store's requests, the ports and the count restart. -/

namespace Sys2Proof.Machine

section
variable {own : Part → Prop} {s : State}

/-! ### Closing and opening contexts (R69, R78, R79, R82) -/

/-- A segment joins the Settle Queue (R79). -/
theorem joinSettleQueue_move (g : Nat) : Binding s (joinSettleQueue s g) := by
  refine Change.quiet (.setSettle _ (absurd rfl)) (liveConditions_setEngine s _ ?_)
  cases s.settle.engine <;> rfl

/-- An OPEN context closed (R78). -/
theorem closeContext_move (c : Fin 16) (cause : CloseCause) : Binding s (closeContext s c cause) := by
  have hset (r : Option Context) (hr : heldBy r = heldBy (s.context c)) : Binding s (s.setContext c r) :=
    setContext_move c r hr (absurd rfl)
  unfold closeContext
  split
  next => exact .refl s
  next ctx hc =>
    split
    next => exact .refl s
    next owner _ =>
      split
      next hob =>
        have hzero : heldBy none = heldBy (s.context c) := by rw [hc]; simp_all [heldBy]
        exact ((hset none hzero).binding (setPhase_move _ _) rfl).plain flagWaiting_move
      next =>
        have hsame : heldBy (some { ctx with phase := .closed owner cause }) = heldBy (s.context c) := by rw [hc]; rfl
        exact ((hset _ hsame).binding (setPhase_move _ _) rfl).binding (joinSettleQueue_move _) rfl

/-- A lane's context closed, and its state replaced (R24, R78). -/
theorem closeLane_move (l : Fin 8) (cause : CloseCause) (m : LaneMode) : Binding s (closeLane s l cause m) := by
  unfold closeLane
  split
  next c _ => exact (closeContext_move c cause).binding (setMode_move l m (absurd rfl)) rfl
  next => exact setMode_move l m (absurd rfl)

/-- A FREE context opened (R69). -/
theorem openContext_move (l : Fin 8) (g : Nat) (c : Fin 16) (prior : Prior) (hfree : s.context c = none) :
    Binding s (openContext s l g c prior) := by
  have hset := setContext_move (own := (· = .claims)) (s := s) c (some
    { segment := g, phase := .opened l, prior := prior, openTime := s.clock.value, truncated := false,
      capDiscards := 0, poolDiscards := 0, observations := [] }) (by rw [hfree]; rfl) (absurd rfl)
  exact (hset.binding (setPhase_move _ _) rfl).binding (setMode_move l _ (absurd rfl)) rfl

/-! ### Detachment (R26) -/

/-- A lane detached (R26, R61). -/
theorem detach_move (l : Fin 8) : Binding s (detach s l) := by
  unfold detach
  split
  next => exact .refl s
  next =>
    have hclear := setQueue_move (own := (· = .claims)) (s := s) l { s.lane l with queue := [] }
      ⟨fun _ => ⟨Nat.zero_le _, Nat.zero_le _⟩, id, id⟩ rfl
    have hdrop := hclear.plain (raiseDrop_move l (s.lane l).queue.length)
    have hgone (u : State) : Binding u (withEdges u fun s =>
        handSignal (s.setLane l { s.lane l with mode := .detached, paused := false, overrun := false }) l none) :=
      Change.noted (Change.trans (t := u.setLane l { u.lane l with mode := .detached, paused := false, overrun := false })
        (.setLane l _ ⟨id, id, id⟩ (fun _ => ⟨rfl, rfl⟩) (absurd rfl)) (handSignal_change l none))
    dsimp only
    split
    next c _ => exact (hdrop.binding (closeContext_move c _) rfl).binding (hgone _) rfl
    next => exact hdrop.binding (hgone _) rfl

/-- Several lanes detached (R26). -/
theorem detachLanes_move (ls : List (Fin 8)) : Binding s (detachLanes ls s) := by
  induction ls generalizing s with
  | nil => exact .refl s
  | cons l ls ih => exact (detach_move l).binding ih rfl

/-! ### Admission (R70 to R75) -/

/-- Merging leaves the number of observations. -/
theorem mergeInto_length (knots : Vector (BitVec 16) 17) (tag : Tag) (rssi : Int) (position : Option Nat) (arrival : Time)
    (os : List Observation) : (mergeInto knots tag rssi position arrival os).length = os.length := List.length_map _

/-- An observation formed takes a free slot (R72). -/
theorem formObservation_pool {c : Fin 16} {ctx : Context} (hc : s.context c = some ctx) (o : Observation)
    (hcap : ctx.observations.length < 640) (hfree : s.pool.freeSlots ≠ 0) (h : PoolOk s) :
    PoolOk { s.setContext c (some { ctx with observations := ctx.observations ++ [o] }) with
      pool := { (s.setContext c (some { ctx with observations := ctx.observations ++ [o] })).pool with
        freeSlots := s.pool.freeSlots - 1 } } := by
  have hold : heldBy (s.context c) = ctx.observations.length := by rw [hc]; rfl
  have hnew : heldBy (some { ctx with observations := ctx.observations ++ [o] }) = ctx.observations.length + 1 := by
    simp [heldBy]
  constructor
  · have hsum := heldBy_sum_setContext s c (some { ctx with observations := ctx.observations ++ [o] })
    have hall := h.conserved
    dsimp only
    omega
  · exact h.capped_setContext (by omega)

/-- A sighting admitted to a context (R70). -/
theorem admitSighting_move (l : Fin 8) (c : Fin 16) (ctx : Context) (hc : s.context c = some ctx) (tag : Tag) (rssi : Int)
    (position : Option Nat) (arrival : Time) : Plain s (admitSighting s l c ctx tag rssi position arrival) := by
  have hset (ctx' : Context) (hobs : ctx'.observations.length = ctx.observations.length)
      (hclaim : contextClaim ctx' = contextClaim ctx) : Plain s (s.setContext c (some ctx')) :=
    setContext_move c _ (by rw [hc]; exact hobs) fun _ => by rw [hc]; exact congrArg some hclaim
  unfold admitSighting
  split
  next => exact hset _ (mergeInto_length ..) rfl
  next =>
    split
    next =>
      unfold discardAtCap
      dsimp only
      split
      · exact Move.plain (by exact hset _ rfl rfl) (pushOther_move _)
      · exact hset _ rfl rfl
    next hcap =>
      split
      next =>
        unfold discardForPool
        dsimp only
        split
        · exact Move.plain (by exact hset _ rfl rfl) (pushOther_move _)
        · exact hset _ rfl rfl
      next hfree =>
        have hform : Plain s (withEdges s fun s =>
            let s := s.setContext c (some { ctx with
              observations := ctx.observations ++ [newObservation s tag rssi position arrival] })
            { s with pool := { s.pool with freeSlots := s.pool.freeSlots - 1 } }) := by
          refine Change.noted (.setPool _ (formObservation_pool hc _ (Nat.not_le.mp hcap) hfree) fun _ d => ?_)
          change ((s.setContext c _).context d).map contextClaim = _
          rw [State.setContext_context]; split
          next h => rw [h, hc]; rfl
          next => rfl
        unfold formObservation
        dsimp only
        split
        · exact hform.plain (pushOther_move _)
        · exact hform

/-! ### Lane frames (R25, R28, R47 to R53) -/

/-- A LANE_UP (R25). -/
theorem laneUp_move (l : Fin 8) : Plain s (laneUp l s) := by
  unfold laneUp
  dsimp only
  split
  next h =>
    exact Change.noted (.setLane l _ ⟨fun _ => ⟨Nat.zero_le _, Nat.zero_le _⟩, id, id⟩ (fun _ => ⟨rfl, rfl⟩)
      fun _ => by rw [h.1]; rfl)
  next => exact .refl s

/-- A gap mark changes neither the number of entries nor that of the sightings (R50). -/
theorem markNewest_counts (q : List Entry) :
    (markNewest q).length = q.length ∧ (markNewest q).countP isSighting = q.countP isSighting := by
  induction q with
  | nil => exact ⟨rfl, rfl⟩
  | cons e q ih =>
    cases q with
    | nil => exact ⟨rfl, rfl⟩
    | cons f q => simp only [markNewest, List.length_cons, List.countP_cons] at ih ⊢; omega

/-- An ENTER or LEAVE frame (R28, R49, R50). -/
theorem markerFrame_move (k : EntryKind) (hk : ∀ gap, isSighting { kind := k, gap := gap } = false) (l : Fin 8) :
    Plain s (markerFrame k l s) := by
  unfold markerFrame
  split
  next => exact raiseDrop_move l 1
  next =>
    split
    next hroom =>
      refine enqueue_move l k fun hq => ⟨?_, ?_⟩
      · rw [List.length_append]; exact hroom
      · rw [List.countP_append, List.countP_singleton, hk]; exact hq.2
    next =>
      have hmark : Plain s (s.setLane l { s.lane l with queue := markNewest (s.lane l).queue }) :=
        setQueue_move l _ ⟨fun hq => by unfold QueueFits; rwa [(markNewest_counts _).1, (markNewest_counts _).2], id, id⟩
          rfl
      exact (hmark.plain (raiseDrop_move l 1)).plain (pushOther_move _)

/-- A sighting offered to a queue (R48, R53). -/
theorem offerSighting_move (l : Fin 8) (w : WireSighting) : Plain s (offerSighting l s w) := by
  unfold offerSighting
  split
  next hroom =>
    refine enqueue_move l _ fun hq => ?_
    have hcount := List.countP_le_length (p := isSighting) (l := (s.lane l).queue)
    have hlen : (s.lane l).queue.length < 60 := hroom
    refine ⟨?_, ?_⟩
    · rw [List.length_append, List.length_singleton]; omega
    · rw [List.countP_append, List.countP_singleton]; split <;> omega
  next =>
    unfold discardSighting
    dsimp only
    split
    next => exact raiseDrop_move l 1
    next =>
      refine Move.plain (Move.plain (raiseDrop_move l 1) ?_) (pushOther_move _)
      exact setQueue_move l _ ⟨id, id, id⟩ rfl

/-- A SIGHT frame (R28, R48). -/
theorem sightArrives_move (ws : List WireSighting) (l : Fin 8) : Plain s (sightArrives ws l s) := by
  unfold sightArrives
  split
  · exact raiseDrop_move l _
  · exact Move.foldl id ws fun _ w _ => offerSighting_move l w

/-! ### Drains (R30 to R38) -/

/-- An entry leaves a queue (R59). -/
theorem takeHead_move (l : Fin 8) : Plain s (takeHead s l) := by
  have htail (u : State) : Plain u (u.setLane l { u.lane l with queue := (u.lane l).queue.tail }) := by
    refine setQueue_move l _ ⟨fun hq => ?_, id, id⟩ rfl
    have hsub := List.tail_sublist (u.lane l).queue
    exact ⟨hsub.length_le.trans hq.1, (hsub.countP_le).trans hq.2⟩
  exact (((servedLane_move l).plain (htail _)).plain (evalOverrunEnd_move l)).plain (evalPause_move l)

/-- The gap-mark rule (R38). -/
theorem applyGap_move (l : Fin 8) (gap : Bool) : Binding s (applyGap s l gap) := by
  unfold applyGap
  split
  · exact closeLane_move l _ _
  · exact .refl s

/-- A FREE context found is FREE. -/
theorem freeContext_free {c : Fin 16} (h : freeContext s = some c) : s.context c = none := by
  have := List.find?_some h
  rwa [Option.isNone_iff_eq_none] at this

/-- The context an ENTER opens is FREE (R69). -/
theorem enterOutcome_opens {l : Fin 8} {rel g : Nat} {c : Fin 16} {prior : Prior}
    (h : enterOutcome s l rel = .opens g c prior) : s.context c = none := by
  have hopen (g' : Nat) (p : Prior) (ho : openOrWait s g' p = .opens g c prior) : s.context c = none := by
    unfold openOrWait at ho
    split at ho
    next d hd => obtain ⟨-, rfl, -⟩ := EnterOutcome.opens.inj ho; exact freeContext_free hd
    next => exact EnterOutcome.noConfusion ho
  unfold enterOutcome at h
  dsimp only at h
  split at h
  · exact EnterOutcome.noConfusion h
  · split at h
    · exact EnterOutcome.noConfusion h
    · split at h
      · exact EnterOutcome.noConfusion h
      · exact EnterOutcome.noConfusion h
      · exact EnterOutcome.noConfusion h
      · exact hopen _ _ h
      · split at h
        · exact hopen _ _ h
        · exact EnterOutcome.noConfusion h

/-- An ENTER acts (R31 to R33). -/
theorem evalEnter_move (l : Fin 8) (rel : Nat) (gap : Bool) : Binding s (evalEnter s l rel gap) := by
  unfold evalEnter
  split
  next => exact setMode_move l _ (absurd rfl)
  next g c prior h => exact (openContext_move l g c prior (enterOutcome_opens h)).binding (applyGap_move l gap) rfl
  next =>
    split
    next => exact (pushOther_move _).binding (setMode_move l _ (absurd rfl)) rfl
    next => exact .refl s

/-- A lane's context closed for its ENTER (R31). -/
theorem closeForEnter_move (l : Fin 8) : Binding s (closeForEnter s l) := by
  unfold closeForEnter
  split
  · exact closeLane_move l _ _
  · exact .refl s

/-- A restarted dwell timer leaves the lane's segment (R39). -/
theorem restartDwell_segment (o : Options) (l : Fin 8) (m : LaneMode) :
    currentSegment (restartDwell o l m) = currentSegment m := by cases m <;> rfl

/-- Pushing a finding leaves every lane. -/
theorem admitSighting_lanes (l : Fin 8) (c : Fin 16) (ctx : Context) (tag : Tag) (rssi : Int) (position : Option Nat)
    (arrival : Time) : (admitSighting s l c ctx tag rssi position arrival).lanes = s.lanes := by
  unfold admitSighting discardAtCap discardForPool formObservation
  dsimp only
  split
  · rfl
  · split
    · split
      · rw [pushOther_lanes]; rfl
      · rfl
    · split
      · split
        · rw [pushOther_lanes]; rfl
        · rfl
      · split
        · rw [pushOther_lanes]; rfl
        · rfl

/-- A SIGHT acts (R36, R39). -/
theorem actSight_move (l : Fin 8) (tag : Tag) (rssi : Int) (position : Option Nat) (arrival : Time) :
    Plain s (actSight s l tag rssi position arrival) := by
  unfold actSight
  split
  next => exact setQueue_move l _ ⟨id, fun _ => tallyAdd_le _ _, id⟩ rfl
  next =>
    split
    next => exact .refl s
    next c _ =>
      split
      next => exact .refl s
      next ctx hc =>
        refine (admitSighting_move l c ctx hc tag rssi position arrival).plain (setMode_move l _ fun _ => ?_)
        rw [restartDwell_segment, State.lane_eq_of_lanes (admitSighting_lanes l c ctx tag rssi position arrival)]

/-- A LEAVE acts (R37). -/
theorem actLeave_move (l : Fin 8) : Binding s (actLeave s l) := by
  unfold actLeave
  split
  · exact closeLane_move l _ _
  · exact setMode_move l _ (absurd rfl)

/-! ### Circulation events (R126 to R135) -/

/-- An event ignored (R127). -/
theorem ignoreEvent_move : Move own s (ignoreEvent s) :=
  Change.quiet (.setCirc _ id fun h => ⟨h.circ.1, h.circ.2.1, tallyAdd_le _ _, h.circ.2.2.2⟩) rfl

/-- An event applied (R130). -/
theorem applyEvent_move (e : CircEvent) (i : Nat) (it : Item) : Plain s (applyEvent s e i it) := by
  have hcount (u : State) : Plain u { u with circ := { u.circ with applied := tallyAdd u.circ.applied 1 } } :=
    Change.quiet (.setCirc _ id fun h => ⟨tallyAdd_le _ _, h.circ.2⟩) rfl
  unfold applyEvent
  dsimp only
  split
  · exact (Move.plain (setItem_move i _) (pushOther_move _)).plain (hcount _)
  · exact Move.plain (setItem_move i _) (hcount _)

/-- An event deferred or dropped (R133, R134). -/
theorem deferEvent_move (e : CircEvent) (i : Nat) (it : Item) : Plain s (deferEvent s e i it) := by
  unfold deferEvent
  split
  next hroom =>
    refine Change.noted (.setCirc _ (fun _ => ?_) fun h => ⟨h.circ.1, tallyAdd_le _ _, h.circ.2.2⟩)
    rw [List.length_append]; exact hroom
  next =>
    have hdrop : Plain s { s with circ := { s.circ with dropped := tallyAdd s.circ.dropped 1 } } :=
      Change.quiet (.setCirc _ id fun h => ⟨h.circ.1, h.circ.2.1, h.circ.2.2.1, tallyAdd_le _ _⟩) rfl
    exact hdrop.plain (pushOther_move _)

/-- One event of a frame (R127, R129). -/
theorem takeEvent_move (now : Time) (w : WireEvent) : Plain s (takeEvent now s w) := by
  unfold takeEvent
  split
  next => exact ignoreEvent_move
  next =>
    split
    next => exact ignoreEvent_move
    next =>
      split
      · exact deferEvent_move _ _ _
      · exact applyEvent_move _ _ _

/-- One deferred event visited (R135). -/
theorem applyDeferred_move (e : CircEvent) : Plain s (applyDeferred s e) := by
  unfold applyDeferred
  split
  · exact ignoreEvent_move
  · exact applyEvent_move _ _ _

/-- The Deferred Queue applied and emptied (R135). -/
theorem drainDeferred_move : Plain s (drainDeferred s) :=
  (Move.foldl id _ fun _ e _ => applyDeferred_move e).plain
    (Change.noted (.setCirc _ (fun _ => Nat.zero_le _) fun h => h.circ))

end

end Sys2Proof.Machine
end

section
/-! What the requests of the Shelf List Store, the stages of a settle, the option words, the ports' transmitters and the
count restart move. -/

namespace Sys2Proof.Machine

section
variable {own : Part → Prop} {s : State}

/-! ### Segment records that claim nothing -/

theorem Phase.free_loading (n : Nat) : (Phase.loading n).free := ⟨fun _ => Phase.noConfusion, fun _ => Phase.noConfusion⟩
theorem Phase.free_ready : Phase.ready.free := ⟨fun _ => Phase.noConfusion, fun _ => Phase.noConfusion⟩
theorem Phase.free_settled : Phase.settled.free := ⟨fun _ => Phase.noConfusion, fun _ => Phase.noConfusion⟩

/-- A segment that is UNLOADED, or whose phase is free, is neither COUNTING nor SETTLING. -/
theorem not_countsIn_of_free {g : Nat} (h : ∀ r, s.segment g = some r → r.phase.free) (c : Fin 16) :
    ¬ countsIn s g c ∧ ¬ settlesIn s g c :=
  ⟨fun ⟨r, hr, hp⟩ => (h r hr).1 c hp, fun ⟨r, hr, hp⟩ => (h r hr).2 c hp⟩

/-! ### Runs given back and taken (R3, R10) -/

/-- A segment given back: the others stay. -/
theorem giveBack_segment (ht : TablesOk s) (g : Nat) (r : Segment) (h : Nat) :
    (giveBack s g r).segment h = if h = g then none else s.segment h := by
  split
  next e => subst e; exact tget_terase_same _ ht.segments h
  next e => exact tget_terase_other _ ht.segments g h e

/-- A run given back leaves the others apart. -/
theorem RunsOk.giveBack (ht : TablesOk s) (h : RunsOk s) (g : Nat) (r : Segment) : RunsOk (giveBack s g r) := by
  have hkept (k : Nat) (q : Segment) (hq : (Machine.giveBack s g r).segment k = some q) : s.segment k = some q := by
    rw [giveBack_segment ht] at hq
    split at hq
    · exact absurd hq (by simp)
    · exact hq
  have hsum : ((terase s.store.segments g).map fun e => e.2.itemCount).sum ≤
      (s.store.segments.map fun e => e.2.itemCount).sum :=
    List.Sublist.sum_le_sum (List.filter_sublist.map _) fun _ _ => Nat.zero_le _
  constructor
  · exact fun k q hq => h.numbers k q (hkept k q hq)
  · exact fun k q hq => h.counts k q (hkept k q hq)
  · exact fun k q hq => h.inside k q (hkept k q hq)
  · exact fun k m q x i hq hx => h.apart k m q x i (hkept k q hq) (hkept m x hx)
  · have hfree := h.freeCount
    change countFree (terase s.store.segments g) + _ = 65536
    rw [countFree_eq]
    change _ + ((terase s.store.segments g).map fun e => e.2.itemCount).sum = 65536
    omega
  · rfl

/-- A run given back (R1, R3). -/
theorem giveBack_move (g : Nat) (r : Segment) (hr : ∀ q, s.segment g = some q → q.phase.free) :
    Plain s (giveBack s g r) := by
  refine Change.quiet (.setStore _ ?_ (fun ht h => h.giveBack ht g r) fun _ ht k c => ?_) rfl
  · exact fun h => ⟨terase_wf _ g h.segments, tfilter_wf (fun i _ => !inRun r i) _ h.items, h.tagIndex⟩
  · change (countsIn (giveBack s g r) k c ↔ _) ∧ (settlesIn (giveBack s g r) k c ↔ _)
    have hseg := giveBack_segment ht g r k
    split at hseg
    next e =>
      subst e
      have hthen := not_countsIn_of_free (s := giveBack s k r) (g := k) (by simp [hseg]) c
      have hnow := not_countsIn_of_free hr c
      exact ⟨iff_of_false hthen.1 hnow.1, iff_of_false hthen.2 hnow.2⟩
    next => unfold countsIn settlesIn; rw [hseg]; exact ⟨.rfl, .rfl⟩

/-- A record written under a new number joins the others. -/
theorem tput_perm {α : Type} (t : Table α) (n : Nat) (x : α) (h : tget t n = none) : (tput t n x).Perm ((n, x) :: t) := by
  induction t with
  | nil => exact .refl _
  | cons e t ih =>
    obtain ⟨k, v⟩ := e
    simp only [tget] at h
    split at h
    next => exact absurd h (by simp)
    next hne =>
      unfold tput
      split
      · exact .refl _
      · exact ((ih h).cons _).trans (.swap ..)

/-- The store after a load has begun in a free place. -/
abbrev begun (s : State) (g : Nat) (q : Segment) : State :=
  { s.setSegment g q with store := refigure (s.setSegment g q).store }

/-- A new run in a free place leaves the runs apart. -/
theorem RunsOk.begun (ht : TablesOk s) (h : RunsOk s) {g : Nat} {q : Segment} (hg : g < 2048) (hnew : s.segment g = none)
    (hcount : 1 ≤ q.itemCount ∧ q.itemCount ≤ 512) (hfree : FreeAt s q.firstItem q.itemCount) : RunsOk (begun s g q) := by
  have hseg (k : Nat) : (Machine.begun s g q).segment k = if k = g then some q else s.segment k :=
    State.setSegment_segment s g k q
  have hsum : ((tput s.store.segments g q).map fun e => e.2.itemCount).sum =
      q.itemCount + (s.store.segments.map fun e => e.2.itemCount).sum := by
    rw [((tput_perm _ g q hnew).map _).sum_eq]; rfl
  have hclear (k : Nat) (r : Segment) (i : Nat) (hr : s.segment k = some r) (hi : inRun q i = true)
      (hri : inRun r i = true) : False := by
    obtain ⟨hlow, hhigh⟩ := (inRun_iff q i).mp hi
    exact Bool.false_ne_true ((hfree.2 i hlow hhigh k r hr).symm.trans hri)
  have hcases (k : Nat) (r : Segment) (hr : (Machine.begun s g q).segment k = some r) :
      (k = g ∧ r = q) ∨ s.segment k = some r := by
    rw [hseg] at hr
    split at hr
    next e => exact .inl ⟨e, (Option.some.inj hr).symm⟩
    next => exact .inr hr
  constructor
  · intro k r hr
    rcases hcases k r hr with ⟨rfl, rfl⟩ | hr
    · exact hg
    · exact h.numbers k r hr
  · intro k r hr
    rcases hcases k r hr with ⟨rfl, rfl⟩ | hr
    · exact hcount
    · exact h.counts k r hr
  · intro k r hr
    rcases hcases k r hr with ⟨rfl, rfl⟩ | hr
    · exact hfree.1
    · exact h.inside k r hr
  · intro k m r x i hr hx hri hxi
    rcases hcases k r hr with ⟨rfl, rfl⟩ | hr'
    · rcases hcases m x hx with ⟨rfl, rfl⟩ | hx'
      · rfl
      · exact (hclear m x i hx' hri hxi).elim
    · rcases hcases m x hx with ⟨rfl, rfl⟩ | hx'
      · exact (hclear k r i hr' hxi hri).elim
      · exact h.apart k m r x i hr' hx' hri hxi
  · have hle := h.freeAt_le ht hfree
    change countFree (tput s.store.segments g q) + _ = 65536
    rw [countFree_eq]
    change _ + ((tput s.store.segments g q).map fun e => e.2.itemCount).sum = 65536
    omega
  · rfl

/-- A load begun moves the store alone, and claims nothing. -/
theorem begun_move {g : Nat} {q : Segment} (hphase : q.phase.free) (hg : g < 2048) (hnew : s.segment g = none)
    (hcount : 1 ≤ q.itemCount ∧ q.itemCount ≤ 512)
    (hfree : TablesOk s → RunsOk s → FreeAt s q.firstItem q.itemCount) : Plain s (begun s g q) := by
  refine Change.quiet (.setStore _ ?_ (fun ht h => h.begun ht hg hnew hcount (hfree ht h)) fun _ _ k c => ?_) rfl
  · exact fun h => ⟨tput_wf _ g q h.segments, h.items, h.tagIndex⟩
  · change (countsIn (begun s g q) k c ↔ _) ∧ (settlesIn (begun s g q) k c ↔ _)
    have hseg : (begun s g q).segment k = if k = g then some q else s.segment k := State.setSegment_segment s g k q
    split at hseg
    next e =>
      subst e
      have hthen := not_countsIn_of_free (s := begun s k q) (g := k)
        (fun r hr => Option.some.inj (hseg.symm.trans hr) ▸ hphase) c
      have hnow := not_countsIn_of_free (s := s) (g := k) (by simp [hnew]) c
      exact ⟨iff_of_false hthen.1 hnow.1, iff_of_false hthen.2 hnow.2⟩
    next => unfold countsIn settlesIn; rw [hseg]; exact ⟨.rfl, .rfl⟩

/-! ### The requests of the store (R9 to R16) -/

/-- LOAD_BEGIN (R9, R10). -/
theorem loadBegin_move (g count presence twin : Nat) : Plain s (loadBegin g count presence twin s).1 := by
  unfold loadBegin
  split
  next => exact .refl s
  next hbad =>
    simp only [loadBeginBad, Bool.or_eq_true, decide_eq_true_eq, not_or, not_le, not_lt] at hbad
    obtain ⟨⟨⟨hg, -⟩, -⟩, hcount⟩ := hbad
    split
    next => exact .refl s
    next hnew =>
      split
      next => exact .refl s
      next start hfit =>
        refine begun_move (Phase.free_loading 0) hg hnew ?_ fun ht h => h.firstFit_free ht hfit
        change 1 ≤ loadCount count ∧ loadCount count ≤ 512
        unfold loadCount Config.itemsPerSegment
        split <;> omega

/-- Records written keep the table's form. -/
theorem writeItems_wf (g i : Nat) (records : List WireItem) (t : Table Item) (h : Table.wf t) :
    Table.wf (writeItems g i records t) := by
  induction records generalizing i t with
  | nil => exact h
  | cons r rest ih => exact ih (i + 1) _ (tput_wf t i _ h)

/-- Tags indexed keep the index's form. -/
theorem indexItems_wf (run : Table Item) (t : Table Nat) (h : Table.wf t) : Table.wf (indexItems run t) := by
  induction run generalizing t with
  | nil => exact h
  | cons e rest ih => exact ih _ (tput_wf t _ _ h)

/-- LOAD_ITEMS (R11). -/
theorem loadItems_move (g offset : Nat) (records : List WireItem) : Plain s (loadItems g offset records s).1 := by
  unfold loadItems
  split
  next => exact .refl s
  next =>
    split
    next => exact .refl s
    next r hr =>
      split
      next loaded hp =>
        dsimp only
        split
        next => exact .refl s
        next =>
          split
          next => exact .refl s
          next =>
            split
            next => exact .refl s
            next =>
              have hseg := setSegment_move (own := fun _ => False) (s := s) g r
                { r with phase := .loading (loaded + records.length) } hr rfl
                fun _ => .inr ⟨Phase.free_loading _, hp ▸ Phase.free_loading _⟩
              exact hseg.plain (Change.quiet
                (setTables_change _ _ (fun h => writeItems_wf g _ records _ h.items) fun h => h.tagIndex) rfl)
      next => exact .refl s

/-- The end of a duplicate check (R13). -/
theorem finishCheck_move (g : Nat) (r : Segment) (hr : s.segment g = some r) (hp : r.phase.free) :
    Plain s (finishCheck s g r).1 := by
  unfold finishCheck
  split
  next => exact giveBack_move g r fun q hq => Option.some.inj (hr.symm.trans hq) ▸ hp
  next =>
    have hseg := setSegment_move (own := fun _ => False) (s := s) g r { r with phase := .ready } hr rfl
      fun _ => .inr ⟨Phase.free_ready, hp⟩
    exact hseg.plain (Change.quiet
      (setTables_change _ _ (fun h => h.items) fun h => indexItems_wf _ _ h.tagIndex) rfl)

/-- LOAD_ABORT (R14). -/
theorem loadAbort_move (g : Nat) : Plain s (loadAbort g s).1 := by
  unfold loadAbort
  split
  next => exact .refl s
  next =>
    split
    next => exact .refl s
    next r hr =>
      split
      next n hp =>
        refine giveBack_move g r fun q hq => ?_
        rw [← Option.some.inj (hr.symm.trans hq), hp]; exact Phase.free_loading n
      next => exact .refl s

/-- Stripping item indexes leaves every context's claim and number of observations (R15). -/
theorem stripContexts_change (r : Segment) : Change own s { s with pool := stripContexts r s.pool } := by
  have hctx (c : Fin 16) : (stripContexts r s.pool).contexts[c.val] = (s.context c).map fun ctx =>
      { ctx with observations := ctx.observations.map (stripObservation r) } := by
    simp [stripContexts, State.context]
  have hheld (x : Option Context) : heldBy (x.map fun ctx =>
      { ctx with observations := ctx.observations.map (stripObservation r) }) = heldBy x := by
    cases x <;> simp [heldBy]
  refine .setPool _ (fun h => ⟨?_, fun c => ?_⟩) fun _ c => ?_
  · have hall := h.conserved
    simp only [stripContexts, Vector.toList_map, List.map_map, Function.comp_def, hheld]
    exact hall
  · change heldBy (stripContexts r s.pool).contexts[c.val] ≤ 640
    rw [hctx, hheld]; exact h.capped c
  · rw [hctx, Option.map_map]; rfl

/-- UNLOAD (R15). -/
theorem unload_move (g : Nat) : Plain s (unload g s).1 := by
  have htaken (r : Segment) (hr : s.segment g = some r) (hp : r.phase.free) : Plain s (unloadTaken s g r) := by
    have hindex : Plain s { s with store := { s.store with
        tagIndex := tfilter (fun _ i => !inRun r i) s.store.tagIndex } } :=
      Change.quiet (setTables_change s.store.items _ (fun h => h.items) fun h => tfilter_wf _ _ h.tagIndex) rfl
    refine (hindex.plain (Change.quiet (stripContexts_change r) rfl)).plain (giveBack_move g r fun q hq => ?_)
    exact Option.some.inj (hr.symm.trans hq) ▸ hp
  unfold unload
  split
  next => exact .refl s
  next =>
    split
    next => exact .refl s
    next r hr =>
      split
      next hp =>
        split
        next => exact .refl s
        next => exact htaken r hr (hp ▸ Phase.free_ready)
      next hp =>
        split
        next => exact .refl s
        next => exact htaken r hr (hp ▸ Phase.free_settled)
      next => exact .refl s

/-- RECOUNT (R16). -/
theorem recount_move (g : Nat) : Plain s (recount g s).1 := by
  unfold recount
  split
  next => exact .refl s
  next =>
    split
    next => exact .refl s
    next r hr =>
      split
      next => exact .refl s
      next hp => exact setSegment_move g r _ hr rfl fun _ => .inr ⟨Phase.free_ready, hp ▸ Phase.free_settled⟩
      next => exact .refl s

/-- QUERY_SEGMENT and QUERY_ITEM change nothing (R17, R18). -/
theorem querySegment_state (g : Nat) : (querySegment g s).1 = s := by unfold querySegment; split <;> rfl

theorem queryItemAnswer_state (selector : Nat) (value : BitVec 64) : (queryItemAnswer selector value s).1 = s := by
  unfold queryItemAnswer
  split
  · rfl
  · split <;> rfl

/-- CLOSE_SEGMENT (R41, R80). -/
theorem closeSegment_move (g : Nat) : Binding s (closeSegment g s).1 := by
  unfold closeSegment
  split
  next => exact .refl s
  next =>
    split
    next => exact .refl s
    next c _ =>
      split
      next => exact .refl s
      next =>
        split
        next => exact .refl s
        next owner _ => exact (closeContext_move c .request).binding (setMode_move owner .inVoid (absurd rfl)) rfl

/-! ### The stages of a settle (R103 to R122) -/

/-- The parts of the settle in progress are those the state holds. -/
theorem settles_of_inSettle {w : Settle} {r : Segment} {c : Fin 16} {ctx : Context}
    (h : inSettle s = some (w, r, c, ctx)) : Settles s w r c ctx := by
  unfold inSettle at h
  split at h
  next => exact absurd h (by simp)
  next w' hw =>
    split at h
    next r' c' ctx' hr hc =>
      obtain ⟨rfl, rfl, rfl, rfl⟩ : w' = w ∧ r' = r ∧ c' = c ∧ ctx' = ctx := by simpa using h
      have ⟨hengine, hkept⟩ : s.settle.engine = .settling w' ∧ w'.kept = none := by
        unfold Machine.running at hw
        split at hw
        next x hx =>
          split at hw
          next hk => obtain rfl := Option.some.inj hw; exact ⟨hx, Option.isNone_iff_eq_none.mp hk⟩
          next => exact absurd hw (by simp)
        next => exact absurd hw (by simp)
      have ⟨hphase, hctx⟩ : r'.phase = .settling c' ∧ s.context c' = some ctx' := by
        unfold settlingContext at hc
        rw [hr] at hc
        dsimp only at hc
        split at hc
        next d hd =>
          obtain ⟨x, hx, hpair⟩ := Option.map_eq_some_iff.mp hc
          obtain ⟨rfl, rfl⟩ := Prod.mk.inj hpair
          exact ⟨hd, hx⟩
        next => exact absurd hc (by simp)
      exact ⟨hengine, hkept, hr, hphase, hctx⟩
    next => exact absurd h (by simp)

/-- The freeze (R103). -/
theorem freeze_move : Binding s (freeze s) := by
  unfold freeze
  split
  next g rest htaking hqueue =>
    split
    next => exact .refl s
    next c ctx _ =>
      have hhold : Binding s (holdItems s g ctx.observations) :=
        Change.quiet (setTables_change _ s.store.tagIndex (fun h => tmap_wf _ _ h.items) fun h => h.tagIndex) rfl
      refine hhold.binding (Change.quiet (.setSettle _ (absurd rfl)) (liveConditions_setEngine _ _ ?_)) rfl
      change stalled (.settling _) = stalled s.settle.engine
      rw [htaking]; rfl
  next => exact .refl s

/-- The results stage, for one ruling (R112 to R115). -/
theorem writeResult_move (w : Settle) (seg : Segment) (ctx : Context) (rs todo : List Ruling) (r : Ruling)
    (hw : s.settle.engine = .settling w) : Plain s (writeResult s w seg ctx rs todo r) := by
  unfold writeResult
  dsimp only
  split
  next => exact goOn_move w _ _ hw rfl rfl
  next => exact goOn_move w _ _ hw rfl rfl
  next =>
    split
    next => exact goOn_move w _ _ hw rfl rfl
    next => exact Move.plain (setItem_move _ _) (goOn_move w _ _ hw rfl rfl)

/-- The missing sweep, for one item (R117 to R119). -/
theorem sweepItem_move (w : Settle) (seg : Segment) (ctx : Context) (rs : List Ruling) (todo : List Nat) (i : Nat)
    (hw : s.settle.engine = .settling w) : Plain s (sweepItem s w seg ctx rs todo i) := by
  unfold sweepItem
  dsimp only
  split
  next => exact setSettle_move w _ hw rfl rfl
  next =>
    split
    next =>
      split
      next => exact Move.plain (setItem_move _ _) (goOn_move w _ _ hw rfl rfl)
      next => exact setSettle_move w _ hw rfl rfl
    next => exact Move.plain (setItem_move _ _) (goOn_move w _ _ hw rfl rfl)

/-- The cue and the release after SEGMENT_SETTLED (R121). -/
theorem afterSummary_move (w w' : Settle) (rs : List Ruling) (hw : s.settle.engine = .settling w)
    (hsegment : w'.segment = w.segment) (hkept : w'.kept = w.kept) : Plain s (afterSummary s w' rs) := by
  have hgo : Plain s (s.setSettle { w' with stage := .release }) := setSettle_move w _ hw hsegment hkept
  unfold afterSummary
  dsimp only
  split
  next => exact hgo
  next =>
    split
    next => exact hgo
    next =>
      split
      next => exact hgo.plain (offerFieldOut_move _)
      next => exact hgo

/-- The summary (R120, R121). -/
theorem summarize_move (w : Settle) (seg : Segment) (ctx : Context) (rs : List Ruling)
    (hw : s.settle.engine = .settling w) : Plain s (summarize s w seg ctx rs) := by
  unfold summarize
  dsimp only
  split
  next h =>
    exact (appendSettle_move _ fun _ => Nat.lt_trans h (by decide)).plain (afterSummary_move w _ rs hw rfl rfl)
  next => exact settlePush_move w _ _ hw rfl rfl

/-- The resumption of a STALLED engine (R116, R148). -/
theorem resumeEngine_move : Plain s (resumeEngine s) := by
  unfold resumeEngine
  split
  next w hw =>
    split
    next f _ =>
      split
      next hlen =>
        have hrun : Plain s (withEdges s fun s => s.setSettle { w with kept := none }) :=
          Change.noted (setSettle_change w _ hw rfl)
        have hpush := hrun.plain (appendSettle_move (s := withEdges s fun s => s.setSettle { w with kept := none }) f
          fun ho => lt_of_le_of_lt hlen (Nat.lt_of_le_of_lt ho.fqResume (by decide)))
        dsimp only
        split
        next rs _ _ => exact hpush.plain (afterSummary_move { w with kept := none } _ rs rfl rfl rfl)
        next => exact hpush
      next => exact .refl s
    next => exact .refl s
  next => exact .refl s

/-- A QUERY_ITEM that waits takes the record (R18). -/
theorem captureQuery_move : Move own s (captureQuery s) := by
  unfold captureQuery
  split
  next =>
    split
    next => exact setHead_move _
    next => exact .refl s
  next => exact .refl s

/-- The slots of a freed context go back (R83). -/
theorem freeContextSlots_pool {c : Fin 16} {ctx : Context} (hc : s.context c = some ctx) (h : PoolOk s) :
    PoolOk { s.setContext c none with pool := { (s.setContext c none).pool with
      freeSlots := s.pool.freeSlots + ctx.observations.length } } := by
  have hold : heldBy (s.context c) = ctx.observations.length := by rw [hc]; rfl
  constructor
  · have hsum := heldBy_sum_setContext s c none
    have hnone : heldBy none = 0 := rfl
    have hall := h.conserved
    dsimp only
    omega
  · exact h.capped_setContext (Nat.zero_le _)

/-- The release (R83, R122). -/
theorem release_move (w : Settle) (r : Segment) (c : Fin 16) (ctx : Context) (h : Settles s w r c ctx) :
    Binding s (release s w r c ctx) := by
  have hseg : Binding s (s.setSegment w.segment
      { r with phase := .settled, countNumber := nextCount r.countNumber,
               last := (closedBy ctx).map fun x => (x.2, w.tallies) }) :=
    setSegment_move _ r _ h.segment rfl (absurd rfl)
  have hslots (u : State) (hu : u.pool = s.pool) : Binding u (freeContextSlots u c ctx) := by
    have hc : u.context c = some ctx := by rw [← h.context]; exact congrArg (·.contexts[c.val]) hu
    exact Change.noted (.setPool _ (freeContextSlots_pool hc) (absurd rfl))
  have hholds (u : State) : Plain u (clearHolds u) :=
    Change.quiet (setTables_change _ u.store.tagIndex (fun h => tmap_wf _ _ h.items) fun h => h.tagIndex) rfl
  have hscan (u : State) (hu : stalled u.settle.engine = false) :
      Binding u { u with settle := { u.settle with engine := .scanning } } :=
    Change.quiet (.setSettle _ (absurd rfl)) (liveConditions_setEngine u _ hu.symm)
  have hrunning : stalled s.settle.engine = false := by rw [h.engine]; simp [stalled, h.running]
  exact ((((hseg.binding (hslots _ rfl) rfl).plain (hholds _)).plain flagWaiting_move).binding
    (hscan _ hrunning) rfl).plain captureQuery_move

/-- Applying deferred events leaves the engine. -/
theorem drainDeferred_settle : (drainDeferred s).settle = s.settle := by
  have hone (u : State) (e : CircEvent) : (applyDeferred u e).settle = u.settle := by
    unfold applyDeferred
    split
    · rfl
    · rw [(applyEvent_spec u e _ _).2.2.2]
  have hall (es : List CircEvent) (u : State) : (es.foldl applyDeferred u).settle = u.settle := by
    induction es generalizing u with
    | nil => rfl
    | cons e es ih => exact (ih _).trans (hone u e)
  exact hall s.circ.deferred s

/-! ### Option words (R175 to R177) -/

/-- A value clamped to a word's range. -/
theorem clampNat_bounds (lo hi : Nat) (v : Int) (h : lo ≤ hi) : lo ≤ clampNat lo hi v ∧ clampNat lo hi v ≤ hi := by
  have := clampInt_bounds lo hi v (by exact_mod_cast h)
  unfold clampNat
  omega

/-- Every word is stored within its range (R175). -/
theorem OptionsOk.store {o : Options} (h : OptionsOk o) (w : OptionWord) (v : Int) : OptionsOk (storeOption o w v) := by
  obtain ⟨haf, hae, hdwell, hhigh, hresume, hxread, hrevise, hlow⟩ := h
  cases w with
  | general => exact ⟨haf, hae, hdwell, hhigh, hresume, hxread, hrevise, hlow⟩
  | laneEnable => exact ⟨haf, hae, hdwell, hhigh, hresume, hxread, hrevise, hlow⟩
  | laneAF =>
    have hnew := clampNat_bounds 2 60 v (by decide)
    refine ⟨hnew, ?_, hdwell, hhigh, hresume, hxread, hrevise, hlow⟩
    dsimp only [storeOption]
    split <;> omega
  | laneAE =>
    have hnew := clampNat_bounds 0 (o.laneAF - 1) v (Nat.zero_le _)
    exact ⟨haf, by dsimp only [storeOption]; omega, hdwell, hhigh, hresume, hxread, hrevise, hlow⟩
  | dwell l =>
    refine ⟨haf, hae, fun m => ?_, hhigh, hresume, hxread, hrevise, hlow⟩
    dsimp only [storeOption]
    rw [Vector.getElem_set]
    split
    · exact (clampNat_bounds 0 60000 v (by decide)).2
    · exact hdwell m
  | fqHigh => exact ⟨haf, hae, hdwell, clampNat_bounds 1 256 v (by decide), hresume, hxread, hrevise, hlow⟩
  | fqResume => exact ⟨haf, hae, hdwell, hhigh, (clampNat_bounds 0 239 v (by decide)).2, hxread, hrevise, hlow⟩
  | xread => exact ⟨haf, hae, hdwell, hhigh, hresume, clampInt_bounds (-100) (-20) v (by decide), hrevise, hlow⟩
  | revise => exact ⟨haf, hae, hdwell, hhigh, hresume, hxread, clampInt_bounds 0 30 v (by decide), hlow⟩
  | poolLow => exact ⟨haf, hae, hdwell, hhigh, hresume, hxread, hrevise, (clampNat_bounds 0 4096 v (by decide)).2⟩
  | noticeRise => exact ⟨haf, hae, hdwell, hhigh, hresume, hxread, hrevise, hlow⟩
  | noticeFall => exact ⟨haf, hae, hdwell, hhigh, hresume, hxread, hrevise, hlow⟩

/-- The thresholds of a lane at a write of AF or AE (R57). -/
theorem evalLaneThresholds_move (l : Fin 8) : Plain s (evalLaneThresholds s l) := by
  unfold evalLaneThresholds
  split
  · exact .refl s
  · exact Move.plain (evalOverrunEnd_move l) (evalPause_move l)

/-- The reactions to a write (R177). -/
theorem reactToWrite_move (old : Options) (w : OptionWord) : Binding s (reactToWrite old w s) := by
  cases w with
  | laneEnable => exact detachLanes_move _
  | laneAF => exact (Move.foldl (own := fun _ => False) id lanesInOrder fun _ l _ => evalLaneThresholds_move l).lift
  | laneAE => exact (Move.foldl (own := fun _ => False) id lanesInOrder fun _ l _ => evalLaneThresholds_move l).lift
  | fqResume => exact resumeEngine_move.lift
  | _ => exact .refl s

/-- A computed value stored, with the reactions (R176, R177). -/
theorem writeWord_move (hopts : own .opts) (hclaims : own .claims) (w : OptionWord) (v : Int) :
    Move own s (writeWord s w v) := by
  unfold writeWord
  dsimp only
  split
  · exact .refl s
  · exact (Change.noted (.setOpts _ hopts fun h => h.store w v)).binding (reactToWrite_move _ _) hclaims

/-- OPTION (R176). -/
theorem option_move (hopts : own .opts) (hclaims : own .claims) (operation code : Nat) (value : BitVec 32) :
    Move own s (option operation code value s).1 := by
  unfold option
  split
  next => exact .refl s
  next =>
    split
    next => exact .refl s
    next =>
      dsimp only
      split
      next => exact writeWord_move hopts hclaims _ _
      next => exact .refl s

/-! ### The count restart (R21, R44, R62, R85, R125, R141, R155, R170) -/

/-- One lane at a count restart (R44, R62). -/
theorem restartLane_move (l : Fin 8) : Binding s (restartLane s l) := by
  unfold restartLane
  split
  next => exact .refl s
  next =>
    have hidle (u : State) : Change (· = .claims) u (u.setLane l
        { u.lane l with queue := [], mode := .idle, overrun := false, paused := false }) :=
      .setLane l _ ⟨fun _ => ⟨Nat.zero_le _, Nat.zero_le _⟩, id, id⟩ (fun _ => ⟨rfl, rfl⟩) (absurd rfl)
    refine (raiseDrop_move l _).binding (Change.noted ?_) rfl
    dsimp only
    split
    · exact (hidle _).trans (handSignal_change l _)
    · exact hidle _

/-- Every context FREE (R85). -/
theorem restartPool_move : Binding s (restartPool s) := by
  refine Change.noted (.setPool _ (fun _ => ⟨by simp [heldBy, Config.poolSlots], fun c => ?_⟩) (absurd rfl))
  simp [State.context, heldBy]

/-- The settle aborted (R125). -/
theorem abortSettle_move : Binding s (abortSettle s) := Change.noted (.setSettle _ (absurd rfl))

/-- The run of a segment stays at a count restart (R21). -/
theorem restartSegment_run (r : Segment) : runOf (restartSegment r) = runOf r := by
  unfold restartSegment; split <;> rfl

/-- The store after a count restart (R21). -/
theorem restartStore_move : Binding s (restartStore s) := by
  refine Change.quiet (.setStore _ (fun h => ⟨tmap_wf (fun _ r => restartSegment r) _ h.segments, tmap_wf (fun _ it => restartItem it) _ h.items, h.tagIndex⟩)
    (fun _ h => RunsOk.of_runTable (s := s) ?_ rfl rfl h) (absurd rfl)) rfl
  simp [runTable, tmap, restartSegment_run, Function.comp_def]

/-- The Findings Queue emptied (R155). -/
theorem emptyFindings_move : Plain s (emptyFindings s) := by
  refine Change.noted (.setFindq _ (fun _ h => ?_) id)
  dsimp only
  split
  · rw [List.length_take]; omega
  · exact Nat.zero_le _

/-- The Field-Out Queue emptied (R170). -/
theorem emptyFieldOut_move : Plain s (emptyFieldOut s) := by
  refine Change.quiet (.setField _ (fun _ => rfl) (fun h => ?_) id id) rfl
  dsimp only
  split
  · rw [List.length_take]; omega
  · exact Nat.zero_le _

/-- The count restart (R187). -/
theorem restartCount_move : Binding s (restartCount s) := by
  have hlanes : Binding s (lanesInOrder.foldl restartLane s) :=
    Move.foldl Part.noConfusion _ fun _ l _ => restartLane_move l
  exact ((((((hlanes.binding abortSettle_move rfl).binding restartPool_move rfl).binding restartStore_move rfl).plain
    drainDeferred_move).plain emptyFindings_move).plain emptyFieldOut_move)

/-! ### The ports (R149, R162 to R168) -/

/-- The trunk frame in progress replaced. -/
theorem setTrunkTx_move (tx : Option TrunkTx) : Move own s (s.setTrunkTx tx) :=
  Change.quiet (.setTrunk _ (fun _ => rfl) id) rfl

/-- The field frame in progress replaced. -/
theorem setFieldTx_move (tx : Option FieldTx) : Move own s (s.setFieldTx tx) :=
  Change.quiet (.setField _ (fun _ => rfl) id id id) rfl

/-- The Field Port's selection (R168). -/
theorem selectField_move : Plain s (selectField s) := by
  unfold selectField
  split
  next =>
    split
    next => exact Change.quiet (.setField _ (fun _ => rfl) id id id) rfl
    next => exact .refl s
  next =>
    split
    next => exact setFieldTx_move _
    next => exact .refl s

/-- The head finding leaves the queue (R149, R152). -/
theorem popFinding_move : Plain s (popFinding s) :=
  Change.noted (.setFindq _ (fun _ h => (List.length_tail ▸ Nat.sub_le ..).trans h) id)

/-- A NOTICE waits (R165). -/
theorem noticeWaits_move : Plain s { s with notices := { s.notices with waiting := true } } := by
  have h : Change (fun _ => False) s s := ⟨.refl s, .refl _ s, rfl⟩
  obtain ⟨hkeeps, hframe⟩ := h.withNotices { s.notices with waiting := true }
  exact ⟨hkeeps, hframe, fun _ h => h, fun _ => rfl, fun _ _ _ => rfl,
    fun n hs ht => absurd (hs.symm.trans ht) Bool.false_ne_true,
    fun n _ hs ht => absurd (ht.symm.trans hs) Bool.false_ne_true⟩

/-- The frame being sent upstream is cut (R162, R165, R171). -/
theorem cutTrunk_move : Plain s (cutTrunk s) := by
  unfold cutTrunk
  split
  next => exact .refl s
  next =>
    dsimp only
    split
    next => exact Move.plain (setTrunkTx_move none) (setSlots_move _ (changeFirst_length ..).le)
    next => exact Move.plain (setTrunkTx_move none) noticeWaits_move
    next => exact setTrunkTx_move none

end

end Sys2Proof.Machine
end

section
/-! Every command as a move: which parts each command owns, the reset state, and the statements about steps and about
every command that follow. -/

namespace Sys2Proof.Machine

/-! ### The commands' own parts -/

/-- The parts each command may change beside what every command may; full resets are apart. -/
inductive Owns : Instr → Part → Prop
  | loadWeights : Owns .loadWeights .weights
  | setClockTime : Owns .setClock .time
  | setClockSet : Owns .setClock .clockSet
  | tick : Owns .campaignClockTick .time
  | optionWrite : Owns .optionWrite .opts
  | optionSet : Owns .optionSet .opts
  | optionClear : Owns .optionClear .opts
  | setWindow : Owns .setWindow .windows
  | fieldDown {r : Bool} : Owns (.linkDown .field r) .fieldSignal
  | fieldUp : Owns (.linkUp .field) .fieldSignal
  | trunkDown {r : Bool} : Owns (.linkDown .trunk r) .trunkSignal
  | trunkUp : Owns (.linkUp .trunk) .trunkSignal
  | resetInputRelease : Owns .resetInputRelease .resetPin
  | closeSegment : Owns .closeSegment .claims
  | restartCount : Owns .restartCount .claims
  | laneDown {lane : Nat} : Owns (.laneDown lane) .claims
  | drainEnter : Owns .drainEnter .claims
  | drainSight : Owns .drainSight .claims
  | drainLeave : Owns .drainLeave .claims
  | reevaluatePendingEnter : Owns .reevaluatePendingEnter .claims
  | dwellTimeout {l : Fin 8} : Owns (.dwellTimeout l) .claims
  | settleFreeze : Owns .settleFreeze .claims
  | settleRelease : Owns .settleRelease .claims
  | deferredScan : Owns .deferredScan .claims
  | optionWriteDetaches : Owns .optionWrite .claims
  | optionSetDetaches : Owns .optionSet .claims
  | optionClearDetaches : Owns .optionClear .claims
  | linkDownDetaches {r : Bool} : Owns (.linkDown .field r) .claims

section
variable {own : Part → Prop} {s : State}

/-- Bindings moved by a command that owns them. -/
theorem Move.owned {t : State} {i : Instr} (h : Binding s t) (ho : Owns i .claims) : Move (Owns i) s t :=
  h.mono fun _ hp => hp ▸ ho

/-! ### Commands that own a part of the configuration -/

/-- SET_WINDOW (R42). -/
theorem setWindow_move (hown : own .windows) (lane base limit : Nat) : Move own s (setWindow lane base limit s).1 := by
  unfold setWindow
  split
  next =>
    dsimp only
    split
    next => exact .refl s
    next =>
      exact Change.quiet (.setLane _ _ ⟨id, id, id⟩ (absurd hown) fun _ => rfl) (liveConditions_setLane s _ _ rfl rfl)
  next => exact .refl s

/-- SET_CLOCK (R181). -/
theorem setClock_move (htime : own .time) (hset : own .clockSet) (value : Time) : Move own s (setClock value s).1 := by
  unfold setClock
  split
  next => exact .refl s
  next =>
    exact Change.noted (f := fun s => { s with clock := { value := value, set := true } })
      (.setConfig _ _ _ (fun _ => rfl) (absurd htime) (absurd hset) fun _ => rfl)

/-- LOAD_WEIGHTS (R92). -/
theorem loadWeights_move (hown : own .weights) (knots : Vector (BitVec 16) 17) : Move own s (loadWeights knots s).1 := by
  unfold loadWeights
  split
  next => exact .refl s
  next => exact Change.quiet (.setConfig _ _ _ (absurd hown) (fun _ => rfl) (fun _ => rfl) fun _ => rfl) rfl

/-- A tick leaves all of a lane but its dwell timer (R39). -/
theorem tickLane_fields (r : Lane) : tickLane r = { r with mode := (tickLane r).mode } ∧
    currentSegment (tickLane r).mode = currentSegment r.mode ∧ attached (tickLane r) = attached r := by
  obtain ⟨m, _, _, _, _, _, _, _⟩ := r
  cases m with
  | inSegment g d => cases d <;> exact ⟨rfl, rfl, rfl⟩
  | _ => exact ⟨rfl, rfl, rfl⟩

/-- The tick (R39, R180). -/
theorem tick_move (hown : own .time) : Move own s (tick s) := by
  have hlane (l : Fin 8) : (tick s).lanes.recs[l.val] = tickLane (s.lane l) := by simp [tick, State.lane]
  have hfields (l : Fin 8) := tickLane_fields (s.lane l)
  have hclock : Move own s { s with clock := { s.clock with value := s.clock.value + 1 } } :=
    Change.quiet (.setConfig _ _ _ (fun _ => rfl) (absurd hown) (fun _ => rfl) fun _ => rfl) rfl
  refine hclock.plain (Change.quiet (.setLanes (tick s).lanes (fun l => ?_) (fun _ l => ?_) fun _ l => ?_)
    (liveConditions_setLanes _ (tick s).lanes fun l => ?_))
  · rw [hlane, (hfields l).1]; exact ⟨id, id, id⟩
  · rw [hlane, (hfields l).1]; exact ⟨rfl, rfl⟩
  · rw [hlane]; exact (hfields l).2.1
  · rw [hlane]; exact ⟨(hfields l).2.2, by rw [(hfields l).1]⟩

/-! ### Link states (R162, R163, R170) -/

/-- The Field Port's receiver and link state replaced. -/
theorem setFieldLink_move (hown : own .fieldSignal) (signal up : Bool) (tx : Option FieldTx) :
    Move own s { s with field := { s.field with signal := signal, up := up, tx := tx } } :=
  Change.quiet (.setField _ (absurd hown) id id id) rfl

/-- The Trunk Port's receiver and link state replaced. -/
theorem setTrunkLink_move (hown : own .trunkSignal) (signal up : Bool) :
    Move own s { s with trunk := { s.trunk with signal := signal, up := up } } :=
  Change.quiet (.setTrunk _ (absurd hown) id) rfl

/-- The link states read from the receivers (R162, R170). -/
theorem readLinks_move : Move own s (readLinks s) :=
  Move.plain (t := { s with field := { s.field with up := s.field.signal } })
    (Change.quiet (.setField _ (fun _ => rfl) id id id) rfl) (Change.quiet (.setTrunk _ (fun _ => rfl) id) rfl)

/-- A port loses signal (R162, R163). -/
theorem linkDown_move (p : Port) (receiving : Bool) : Move (Owns (.linkDown p receiving)) s (linkDown p receiving s) := by
  cases p with
  | field =>
    unfold linkDown
    dsimp only
    split
    · exact setFieldLink_move .fieldDown _ _ _
    · split
      · have hdiscard : Plain s (if receiving then discardField s else s) := by
          split
          · exact discardField_move
          · exact .refl s
        exact (hdiscard.lift.andThen (setFieldLink_move .fieldDown false false none) fun h => nomatch h).binding
          (detachLanes_move _) .linkDownDetaches
      · exact .refl s
  | trunk =>
    unfold linkDown
    dsimp only
    split
    · exact setTrunkLink_move .trunkDown _ _
    · split
      · have hdiscard : Plain s (if receiving then discardTrunk s else s) := by
          split
          · exact discardTrunk_move
          · exact .refl s
        exact (hdiscard.plain cutTrunk_move).lift.andThen (setTrunkLink_move .trunkDown false false) fun h => nomatch h
      · exact .refl s

/-- A port gains signal (R162, R163). -/
theorem linkUp_move (p : Port) : Move (Owns (.linkUp p)) s (linkUp p s) := by
  cases p with
  | field =>
    unfold linkUp
    dsimp only
    split
    · exact setFieldLink_move .fieldUp _ _ _
    · exact setFieldLink_move .fieldUp _ _ _
  | trunk =>
    unfold linkUp
    dsimp only
    split
    · exact setTrunkLink_move .trunkUp _ _
    · exact setTrunkLink_move .trunkUp _ _

/-! ### Requests and drains -/

/-- An OPTION served by one of the writing rows (R176). -/
theorem serveOption_move (hopts : own .opts) (hclaims : own .claims) (op : Nat) : Move own s (serveOption op s) := by
  unfold serveOption
  split
  next =>
    split
    next => exact serveNow_move fun _ => option_move hopts hclaims _ _ _
    next => exact .refl s
  next => exact .refl s

/-- An OPTION READ writes no word (R176). -/
theorem option_state_of_read {operation : Nat} (h : operation = 0 ∨ 3 < operation) (code : Nat) (value : BitVec 32) :
    (option operation code value s).1 = s := by
  unfold option
  split
  next => rfl
  next =>
    split
    next => rfl
    next hle => rw [h.resolve_right hle]; rfl

/-- A REQUEST frame (R172). -/
theorem joinRequests_move (tag : Byte) (req : Request) : Plain s (joinRequests tag req s) := by
  unfold joinRequests
  split
  next h =>
    refine Change.quiet (.setRequests _ (fun _ => ?_) id) rfl
    rw [List.length_append]; exact h
  next => exact Change.quiet (.setRequests _ id fun _ => tallyAdd_le _ _) rfl

/-- A frame discarded by its port (R160). -/
theorem discardAt_move (p : Port) : Plain s (discardAt p s) := by
  cases p
  · exact discardField_move
  · exact discardTrunk_move

/-- A received frame that fails a check (R160). -/
theorem execFrameDiscard_move (p : Port) (what : Received) : ∃ t, execFrameDiscard p what s = .next t ∧ Plain s t := by
  refine ⟨_, rfl, ?_⟩
  split
  · split
    · exact discardAt_move p
    · split
      · exact discardAt_move p
      · exact .refl s
  · exact .refl s

/-- The scan of the Deferred Queue (R122, R135). -/
theorem execDeferredScan_move : ∃ t, execDeferredScan s = .next t ∧ Binding s t := by
  refine ⟨_, rfl, ?_⟩
  split
  next hscan =>
    refine Move.binding (drainDeferred_move.lift) (Change.quiet (.setSettle _ (absurd rfl)) (liveConditions_setEngine _ _ ?_)) rfl
    rw [drainDeferred_settle, hscan]
    dsimp only
    split <;> rfl
  next => exact .refl s

/-- The Field-Out Queue's head has been sent (R167). -/
theorem execFieldOutFrameSent_move : ∃ t, execFieldOutFrameSent s = .next t ∧ Plain s t := by
  refine ⟨_, rfl, ?_⟩
  split
  · exact Change.quiet (.setField _ (fun _ => rfl) (fun h => (List.length_tail ▸ Nat.sub_le ..).trans h) id id) rfl
  · exact .refl s

/-- A finding has been sent (R149). -/
theorem execFindingSent_move : ∃ t, execFindingSent s = .next t ∧ Plain s t := by
  refine ⟨_, rfl, ?_⟩
  split
  · exact (Move.plain (setTrunkTx_move none) popFinding_move).plain resumeEngine_move
  · exact .refl s

/-- A reply has been sent (R171). -/
theorem execReplySent_move : ∃ t, execReplySent s = .next t ∧ Plain s t := by
  refine ⟨_, rfl, ?_⟩
  split
  · exact (setSlots_move _ (List.length_filter_le ..)).plain (setTrunkTx_move none)
  · exact .refl s

/-- LOAD_END (R12). -/
theorem execLoadEnd_move : ∃ t, execLoadEnd s = .next t ∧ Plain s t := by
  refine ⟨_, rfl, ?_⟩
  split
  · split
    · exact serveNow_move fun u => .refl u
    · exact setHead_move _
  · exact .refl s

/-- The end of a duplicate check (R13). -/
theorem execLoadEndCheckDone_move : ∃ t, execLoadEndCheckDone s = .next t ∧ Plain s t := by
  refine ⟨_, rfl, ?_⟩
  split
  next g _ =>
    split
    next r hr =>
      split
      next n hphase =>
        exact (finishCheck_move g r hr (hphase ▸ Phase.free_loading n)).plain (setHead_move _)
      next => exact .refl s
    next => exact .refl s
  next => exact .refl s

/-- QUERY_ITEM (R18). -/
theorem execQueryItem_move : ∃ t, execQueryItem s = .next t ∧ Plain s t := by
  refine ⟨_, rfl, ?_⟩
  split
  · split
    · exact setHead_move _
    · exact serveNow_move fun u => by rw [queryItemAnswer_state]; exact .refl u
  · exact .refl s

/-- The reply to the request in service. -/
theorem answerHead_move (a : Answer) : Plain s (answerHead s a) := setHead_move _

/-- READ_STATUS changes nothing (R179). -/
theorem readStatus_state (n : Nat) : (readStatus n s).1 = s := by
  unfold readStatus
  split <;> rfl

/-- An OPTION READ served (R176). -/
theorem serveOption_read_move : Plain s (serveOption 0 s) := by
  unfold serveOption
  split
  next operation code value _ =>
    split
    next h => exact serveNow_move fun u => by rw [option_state_of_read h]; exact .refl u
    next => exact .refl s
  next => exact .refl s

/-- The resolution, estimates and order chain stages move only what the engine has found so far. -/
theorem setStage_move {w w' : Settle} {r : Segment} {c : Fin 16} {ctx : Context} (h : inSettle s = some (w, r, c, ctx))
    (hsegment : w'.segment = w.segment) (hkept : w'.kept = w.kept) : Move own s (s.setSettle w') :=
  setSettle_move w w' (settles_of_inSettle h).1 hsegment hkept

/-- The reset input released (R162, R180). -/
theorem execResetInputRelease_move : ∃ t, execResetInputRelease s = .next t ∧ Move (Owns .resetInputRelease) s t := by
  refine ⟨_, rfl, ?_⟩
  split
  · refine Move.plain (t := { s with resetPin := false }) (Change.quiet ?_ rfl) readLinks_move
    exact .setConfig s.weights s.clock false (fun _ => rfl) (fun _ => rfl) (fun _ => rfl) (absurd .resetInputRelease)
  · exact .refl s

end

/-! ### Every command -/

/-- A full reset: every block takes its reset contents (R170, R186). -/
def IsFullReset (i : Instr) : Prop := i = .reset ∨ i = .powerOn ∨ i = .resetInputAssert

/-- A plain move of a command. -/
theorem execPlain {i : Instr} {s : State} (h : ∃ t, exec i s = .next t ∧ Plain s t) :
    ∃ t, exec i s = .next t ∧ Move (Owns i) s t :=
  h.imp fun _ ht => ⟨ht.1, ht.2.lift⟩

/-- Every command but the full resets, READ_NOTICES and the upstream selection is a move (log entry 2). -/
theorem exec_move (i : Instr) (s : State) (hreset : ¬ IsFullReset i) (hread : i ≠ .readNotices)
    (hselect : i ≠ .upstreamSelect) : ∃ t, exec i s = .next t ∧ Move (Owns i) s t := by
  cases i with
  | reset => exact absurd (.inl rfl) hreset
  | powerOn => exact absurd (.inr (.inl rfl)) hreset
  | resetInputAssert => exact absurd (.inr (.inr rfl)) hreset
  | readNotices => exact absurd rfl hread
  | upstreamSelect => exact absurd rfl hselect
  | identify =>
    refine ⟨_, rfl, ?_⟩
    split
    · exact serveNow_move fun u => .refl u
    · exact .refl s
  | readStatus =>
    refine ⟨_, rfl, ?_⟩
    split
    · exact serveNow_move fun u => by rw [readStatus_state]; exact .refl u
    · exact .refl s
  | setWindow =>
    refine ⟨_, rfl, ?_⟩
    split
    · exact serveNow_move fun _ => setWindow_move .setWindow _ _ _
    · exact .refl s
  | setClock =>
    refine ⟨_, rfl, ?_⟩
    split
    · exact serveNow_move fun _ => setClock_move .setClockTime .setClockSet _
    · exact .refl s
  | loadBegin =>
    refine ⟨_, rfl, ?_⟩
    split
    · exact serveNow_move fun _ => (loadBegin_move _ _ _ _).lift
    · exact .refl s
  | loadItems =>
    refine ⟨_, rfl, ?_⟩
    split
    · exact serveNow_move fun _ => (loadItems_move _ _ _).lift
    · exact .refl s
  | loadAbort =>
    refine ⟨_, rfl, ?_⟩
    split
    · exact serveNow_move fun _ => (loadAbort_move _).lift
    · exact .refl s
  | unload =>
    refine ⟨_, rfl, ?_⟩
    split
    · exact serveNow_move fun _ => (unload_move _).lift
    · exact .refl s
  | recount =>
    refine ⟨_, rfl, ?_⟩
    split
    · exact serveNow_move fun _ => (recount_move _).lift
    · exact .refl s
  | closeSegment =>
    refine ⟨_, rfl, ?_⟩
    split
    · exact serveNow_move fun _ => (closeSegment_move _).owned .closeSegment
    · exact .refl s
  | querySegment =>
    refine ⟨_, rfl, ?_⟩
    split
    · exact serveNow_move fun u => by rw [querySegment_state]; exact .refl u
    · exact .refl s
  | loadWeights =>
    refine ⟨_, rfl, ?_⟩
    split
    · exact serveNow_move fun _ => loadWeights_move .loadWeights _
    · exact .refl s
  | unknownRequest =>
    refine ⟨_, rfl, ?_⟩
    split
    · exact serveNow_move fun u => .refl u
    · exact .refl s
  | optionRead => exact ⟨_, rfl, serveOption_read_move.lift⟩
  | optionWrite => exact ⟨_, rfl, serveOption_move .optionWrite .optionWriteDetaches 1⟩
  | optionSet => exact ⟨_, rfl, serveOption_move .optionSet .optionSetDetaches 2⟩
  | optionClear => exact ⟨_, rfl, serveOption_move .optionClear .optionClearDetaches 3⟩
  | loadEnd => exact execPlain execLoadEnd_move
  | loadEndCheckDone => exact execPlain execLoadEndCheckDone_move
  | queryItem => exact execPlain execQueryItem_move
  | replySent => exact execPlain execReplySent_move
  | findingSent => exact execPlain execFindingSent_move
  | fieldOutFrameSent => exact execPlain execFieldOutFrameSent_move
  | frameDiscard p what => exact execPlain (execFrameDiscard_move p what)
  | deferredScan =>
    obtain ⟨t, ht, h⟩ := execDeferredScan_move (s := s)
    exact ⟨t, ht, h.owned .deferredScan⟩
  | resetInputRelease => exact execResetInputRelease_move
  | queryItemHoldCleared =>
    refine ⟨_, rfl, ?_⟩
    split
    · exact (answerHead_move _).lift
    · exact .refl s
  | restartCountComplete =>
    refine ⟨_, rfl, ?_⟩
    split
    · exact (answerHead_move _).lift
    · exact .refl s
  | resetComplete =>
    refine ⟨_, rfl, ?_⟩
    split
    · exact readLinks_move.plain (answerHead_move _)
    · exact .refl s
  | restartCount =>
    refine ⟨_, rfl, ?_⟩
    split
    · exact Move.binding (setHead_move _) restartCount_move .restartCount
    · exact .refl s
  | request tag req => exact ⟨_, rfl, (takeTrunkFrame_move _ (joinRequests_move tag req)).lift⟩
  | circ events =>
    refine ⟨_, rfl, (takeTrunkFrame_move _ ?_).lift⟩
    exact Move.foldl id events fun u e _ => takeEvent_move _ e
  | laneMsg lane body => exact ⟨_, rfl, takeTrunkFrame_move _ (offerFieldOut_move _)⟩
  | laneUp lane => exact ⟨_, rfl, (takeLaneFrame_move lane _ laneUp_move).lift⟩
  | laneDown lane => exact ⟨_, rfl, takeLaneFrame_move lane _ fun l => (detach_move l).owned .laneDown⟩
  | enterFrame lane rel => exact ⟨_, rfl, (takeLaneFrame_move lane _ (markerFrame_move _ fun _ => rfl)).lift⟩
  | leaveFrame lane => exact ⟨_, rfl, (takeLaneFrame_move lane _ (markerFrame_move _ fun _ => rfl)).lift⟩
  | sightFrame lane ws => exact ⟨_, rfl, (takeLaneFrame_move lane _ (sightArrives_move ws)).lift⟩
  | drainEnter =>
    refine ⟨_, rfl, ?_⟩
    split
    next l _ _ _ =>
      have h : Binding s _ := (takeHead_move l).lift.binding (closeForEnter_move l) rfl
      exact Move.owned (h.binding (evalEnter_move ..) rfl) .drainEnter
    next => exact .refl s
  | drainSight =>
    refine ⟨_, rfl, ?_⟩
    split
    next l tag rssi position arrival _ _ =>
      have h : Binding s _ := ((takeHead_move l).plain (actSight_move l tag rssi position arrival)).lift
      exact Move.owned (h.binding (applyGap_move l _) rfl) .drainSight
    next => exact .refl s
  | drainLeave =>
    refine ⟨_, rfl, ?_⟩
    split
    next l _ _ =>
      have h : Binding s _ := (takeHead_move l).lift.binding (actLeave_move l) rfl
      exact Move.owned (h.binding (applyGap_move l _) rfl) .drainLeave
    next => exact .refl s
  | reevaluatePendingEnter =>
    refine ⟨_, rfl, ?_⟩
    split
    next l _ =>
      split
      · have h : Binding s _ := servedLane_move l
        exact Move.owned (h.binding (evalEnter_move ..) rfl) .reevaluatePendingEnter
      · exact .refl s
    next => exact .refl s
  | dwellTimeout l =>
    refine ⟨_, rfl, ?_⟩
    split
    · exact (closeLane_move l _ _).owned .dwellTimeout
    · exact .refl s
  | campaignClockTick =>
    refine ⟨_, rfl, ?_⟩
    split
    · exact .refl s
    · exact tick_move .tick
  | settleFreeze => exact ⟨_, rfl, freeze_move.owned .settleFreeze⟩
  | settleEstimates =>
    refine ⟨_, rfl, ?_⟩
    split
    next h =>
      split
      · exact setStage_move h rfl rfl
      · exact .refl s
    next => exact .refl s
  | settleResolution =>
    refine ⟨_, rfl, ?_⟩
    split
    next h =>
      split
      · exact setStage_move h rfl rfl
      · exact .refl s
    next => exact .refl s
  | settleOrderChain =>
    refine ⟨_, rfl, ?_⟩
    split
    next h =>
      split
      · exact setStage_move h rfl rfl
      · exact .refl s
    next => exact .refl s
  | settleResultWrite =>
    refine ⟨_, rfl, ?_⟩
    split
    next h =>
      split
      · exact (writeResult_move _ _ _ _ _ _ (settles_of_inSettle h).1).lift
      · exact .refl s
    next => exact .refl s
  | settleResume => exact ⟨_, rfl, resumeEngine_move.lift⟩
  | settleSweepItem =>
    refine ⟨_, rfl, ?_⟩
    split
    next h =>
      split
      · exact (sweepItem_move _ _ _ _ _ _ (settles_of_inSettle h).1).lift
      · exact .refl s
    next => exact .refl s
  | settleSummary =>
    refine ⟨_, rfl, ?_⟩
    split
    next h =>
      split
      · exact (summarize_move _ _ _ _ (settles_of_inSettle h).1).lift
      · exact .refl s
    next => exact .refl s
  | settleRelease =>
    refine ⟨_, rfl, ?_⟩
    split
    next h =>
      split
      · exact (release_move _ _ _ _ (settles_of_inSettle h)).owned .settleRelease
      · exact .refl s
    next => exact .refl s
  | noticeSent =>
    refine ⟨_, rfl, ?_⟩
    split
    · exact setTrunkTx_move none
    · exact .refl s
  | fieldSelect =>
    refine ⟨_, rfl, ?_⟩
    split
    · exact selectField_move.lift
    · exact .refl s
  | controlSignalSent =>
    refine ⟨_, rfl, ?_⟩
    split
    · exact setFieldTx_move none
    · exact .refl s
  | linkDown p r => exact ⟨_, rfl, linkDown_move p r⟩
  | linkUp p => exact ⟨_, rfl, linkUp_move p⟩

end Sys2Proof.Machine
end

section
/-! What follows of every command from its move: the statements about steps and about all commands. -/

namespace Sys2Proof.Machine

/-! ### The reset state (R22, R45, R63, R86, R186) -/

/-- Every lane stands at its reset contents. -/
theorem reset_lane (l : Fin 8) : State.reset.lane l = {} := by
  change (Vector.replicate 8 ({} : Lane))[l.val] = _
  simp

/-- Every context is FREE. -/
theorem reset_context (c : Fin 16) : State.reset.context c = none := by
  change (Vector.replicate 16 (none : Option Context))[c.val] = _
  simp

theorem reset_segment (g : Nat) : State.reset.segment g = none := rfl

theorem reset_tables : TablesOk State.reset := ⟨.nil, .nil, .nil⟩

theorem reset_pool : PoolOk State.reset :=
  ⟨by decide, fun c => by rw [reset_context]; exact Nat.zero_le _⟩

theorem reset_options : OptionsOk State.reset.opts where
  laneAF := by decide
  laneAE := by decide
  dwell := by decide
  fqHigh := by decide
  fqResume := by decide
  xread := by decide
  revise := by decide
  poolLow := by decide

theorem reset_queues : QueuesOk State.reset where
  sighting l := by rw [reset_lane]; exact ⟨Nat.zero_le _, Nat.zero_le _⟩
  deferred := Nat.zero_le _
  findings := Nat.zero_le _
  fieldOut := Nat.zero_le _
  requests := Nat.zero_le _

theorem reset_runs : RunsOk State.reset where
  numbers _ _ h := nomatch h
  counts _ _ h := nomatch h
  inside _ _ h := nomatch h
  apart _ _ _ _ _ h := nomatch h
  freeCount := rfl
  largestFree := rfl

theorem reset_claims : ClaimsOk State.reset where
  lane l g d h := by rw [reset_lane] at h; exact nomatch h
  opened c _ _ h := by rw [reset_context] at h; exact nomatch h
  closed c _ _ _ h := by rw [reset_context] at h; exact nomatch h
  counting _ _ := fun ⟨_, h, _⟩ => nomatch h
  settling _ _ := fun ⟨_, h, _⟩ => nomatch h

theorem reset_settle : SettleOk State.reset where
  once := .nil
  holds _ := ⟨fun h => absurd h List.not_mem_nil, fun ⟨_, _, h, _⟩ => nomatch h⟩
  idle _ := rfl
  taking h := nomatch h

theorem reset_tallies : TalliesOk State.reset where
  lanes l := by rw [reset_lane]; exact ⟨Nat.zero_le _, Nat.zero_le _⟩
  circ := ⟨Nat.zero_le _, Nat.zero_le _, Nat.zero_le _, Nat.zero_le _⟩
  findings := Nat.zero_le _
  ports := ⟨Nat.zero_le _, Nat.zero_le _, Nat.zero_le _⟩
  requests := Nat.zero_le _

/-- Settles O3: block by block; the clock that is not set gives SETTLE_STALLED. -/
theorem resetStateIsSound : Obligations.ResetStateIsSound :=
  ⟨reset_tables, reset_pool, reset_options, reset_queues, reset_runs, reset_claims, reset_settle, reset_tallies, by decide⟩

/-! ### Full resets, READ_NOTICES and the upstream selection -/

section
variable {s : State}

/-- A full reset begins: every block is sound, whatever it was (R170, R186). -/
theorem fullReset_keeps : Keeps s (fullReset s) where
  pool _ := ⟨reset_pool.conserved, reset_pool.capped⟩
  tables _ := ⟨.nil, .nil, .nil⟩
  runs _ _ :=
    ⟨reset_runs.numbers, reset_runs.counts, reset_runs.inside, reset_runs.apart, reset_runs.freeCount,
      reset_runs.largestFree⟩
  queues _ _ :=
    ⟨reset_queues.sighting, reset_queues.deferred, reset_queues.findings, reset_queues.fieldOut, reset_queues.requests⟩
  options _ := reset_options
  tallies _ :=
    ⟨reset_tallies.lanes, reset_tallies.circ, reset_tallies.findings, reset_tallies.ports, reset_tallies.requests⟩

/-- What a full reset keeps of the inputs, and what holds in the state it leaves (log entry 26). -/
structure ResetKeeps (s t : State) : Prop extends Keeps s t where
  pending : t.pending = s.pending
  fieldSignal : t.field.signal = s.field.signal
  trunkSignal : t.trunk.signal = s.trunk.signal

theorem readLinks_keeps : ResetKeeps s (readLinks s) := ⟨(readLinks_move (own := fun _ => False)).toKeeps, rfl, rfl, rfl⟩

/-- The commands that are full resets keep the invariants and the inputs. -/
theorem exec_fullReset {i : Instr} (h : IsFullReset i) (s : State) :
    ∃ t, exec i s = .next t ∧ ResetKeeps s t ∧ (i ≠ .resetInputAssert → t.resetPin = s.resetPin) := by
  have hfull : ResetKeeps s (fullReset s) := ⟨fullReset_keeps, rfl, rfl, rfl⟩
  rcases h with rfl | rfl | rfl
  · refine ⟨_, rfl, ?_⟩
    split
    next sl _ _ =>
      have hslot : Change (fun _ => False) (fullReset s) ((fullReset s).setSlots [resetSlot sl]) :=
        .setRequests _ (fun _ => (by decide : 1 ≤ 8)) id
      exact ⟨⟨hfull.toKeeps.trans hslot.toKeeps, rfl, rfl, rfl⟩, fun _ => rfl⟩
    next => exact ⟨⟨.refl s, rfl, rfl, rfl⟩, fun _ => rfl⟩
  · refine ⟨_, rfl, ?_⟩
    split
    · exact ⟨hfull, fun _ => rfl⟩
    · exact ⟨⟨hfull.toKeeps.trans readLinks_keeps.toKeeps, rfl, rfl, rfl⟩, fun _ => rfl⟩
  · have hpin : Change (· = .resetPin) (fullReset s) { fullReset s with resetPin := true } :=
      .setConfig _ (fullReset s).clock true (fun _ => rfl) (fun _ => rfl) (fun _ => rfl) (absurd rfl)
    exact ⟨_, rfl, ⟨hfull.toKeeps.trans hpin.toKeeps, rfl, rfl, rfl⟩, absurd rfl⟩

/-- A command that moves no condition, and sets no latch. -/
structure Looks (s t : State) : Prop extends Keeps s t, Frame (fun _ => False) s t where
  conditions : liveConditions t = liveConditions s
  latches : ∀ n, t.notices.latches.getLsbD n = true → s.notices.latches.getLsbD n = true

theorem Looks.refl (s : State) : Looks s s := ⟨.refl s, .refl _ s, rfl, fun _ => id⟩

/-- A change of the blocks behind it that moves no condition. -/
theorem Looks.change {t u : State} (h : Looks s t) (k : Change (fun _ => False) t u)
    (hc : liveConditions u = liveConditions t) : Looks s u where
  toKeeps := h.toKeeps.trans k.toKeeps
  toFrame := h.toFrame.trans h.tables k.toFrame
  conditions := hc.trans h.conditions
  latches n hn := h.latches n (k.notices ▸ hn)

/-- The notices taken behind it. -/
theorem Looks.setNotices {t : State} (h : Looks s t) (x : Notices)
    (hx : ∀ n, x.latches.getLsbD n = true → t.notices.latches.getLsbD n = true) : Looks s { t with notices := x } where
  toKeeps := h.toKeeps.trans (Change.withNotices (own := fun _ => False) ⟨.refl t, .refl _ t, rfl⟩ x).1
  toFrame := h.toFrame.trans h.tables (Change.withNotices ⟨.refl t, .refl _ t, rfl⟩ x).2
  conditions := h.conditions
  latches n hn := h.latches n (hx n hn)

/-- The head request's slot changed. -/
theorem Looks.setHead {t : State} (h : Looks s t) (st : Slot → SlotState) : Looks s (setHead t st) :=
  h.change (.setRequests _ (changeFirst_length ..).le.trans id) rfl

/-- The notices cleared, and a slot answered (R185). -/
theorem execReadNotices_looks : ∃ t, exec .readNotices s = .next t ∧ Looks s t := by
  refine ⟨_, rfl, ?_⟩
  split
  · have h : Looks s (beginService s .atOnce) := .setHead (.refl s) _
    exact .setHead (h.setNotices { latches := 0, waiting := false } fun n hn => absurd hn (by simp)) _
  · exact .refl s

/-- The Trunk Port begins to send a frame. -/
theorem Looks.setTrunkTx {t : State} (h : Looks s t) (tx : Option TrunkTx) : Looks s (t.setTrunkTx tx) :=
  h.change (.setTrunk _ (fun _ => rfl) id) rfl

/-- The upstream arbiter's selection moves no condition (R164). -/
theorem selectUpstream_looks : Looks s (selectUpstream s) := by
  unfold selectUpstream
  split
  · have h : Looks s (s.setSlots (changeFirst replyIsReady startSending s.requests.slots)) :=
      .change (.refl s) (.setRequests _ (changeFirst_length ..).le.trans id) rfl
    exact h.setTrunkTx _
  · split
    · exact Looks.setTrunkTx (.setNotices (.refl s) { s.notices with waiting := false } fun _ => id) _
    · split
      · exact .setTrunkTx (.refl s) _
      · exact .refl s

/-- The upstream arbiter's selection leaves the latches. -/
theorem selectUpstream_latches : (selectUpstream s).notices.latches = s.notices.latches := by
  unfold selectUpstream
  split
  · rfl
  · split
    · rfl
    · split <;> rfl

theorem execUpstreamSelect_looks : ∃ t, exec .upstreamSelect s = .next t ∧ Looks s t := by
  refine ⟨_, rfl, ?_⟩
  split
  · exact selectUpstream_looks
  · exact .refl s

/-! ### Every command -/

/-- Every command but the full resets leaves what it does not own, and keeps the invariants. -/
theorem exec_frame (i : Instr) (s : State) (hreset : ¬ IsFullReset i) :
    ∃ t, exec i s = .next t ∧ Keeps s t ∧ Frame (Owns i) s t := by
  by_cases hread : i = .readNotices
  · obtain ⟨t, ht, h⟩ := execReadNotices_looks (s := s)
    exact ⟨t, hread ▸ ht, h.toKeeps, h.toFrame.mono fun _ => False.elim⟩
  by_cases hselect : i = .upstreamSelect
  · obtain ⟨t, ht, h⟩ := execUpstreamSelect_looks (s := s)
    exact ⟨t, hselect ▸ ht, h.toKeeps, h.toFrame.mono fun _ => False.elim⟩
  · obtain ⟨t, ht, h⟩ := exec_move i s hreset hread hselect
    exact ⟨t, ht, h.toKeeps, h.toFrame⟩

/-- What a command that is no full reset leaves in the state it ends in. -/
theorem frame_of_exec {i : Instr} {t : State} (ht : exec i s = .next t) (hreset : ¬ IsFullReset i) :
    Keeps s t ∧ Frame (Owns i) s t := by
  obtain ⟨u, hu, h⟩ := exec_frame i s hreset
  obtain rfl := Host.Outcome.next.inj (ht.symm.trans hu)
  exact h

/-- Every command keeps the invariants. -/
theorem keeps_of_exec {i : Instr} {t : State} (ht : exec i s = .next t) : Keeps s t := by
  by_cases hreset : IsFullReset i
  · obtain ⟨u, hu, h, -⟩ := exec_fullReset hreset s
    obtain rfl := Host.Outcome.next.inj (ht.symm.trans hu)
    exact h.toKeeps
  · exact (frame_of_exec ht hreset).1

/-- The commands that wait are read by no invariant. -/
theorem setPending_keeps (cs : List Instr) : Keeps s (s.setPending cs) where
  pool h := ⟨h.conserved, h.capped⟩
  tables h := ⟨h.segments, h.items, h.tagIndex⟩
  runs _ h := ⟨h.numbers, h.counts, h.inside, h.apart, h.freeCount, h.largestFree⟩
  queues _ h := ⟨h.sighting, h.deferred, h.findings, h.fieldOut, h.requests⟩
  options := id
  tallies h := ⟨h.lanes, h.circ, h.findings, h.ports, h.requests⟩

/-- Every step keeps the invariants. -/
theorem keeps_of_step {t : State} (h : step s = .next t) : Keeps s t := by
  unfold step at h
  split at h
  · obtain rfl := Host.Outcome.next.inj h
    exact .refl s
  · exact (setPending_keeps _).trans (keeps_of_exec h)

end

/-! ### The statements -/

/-- Settles O1: both cases are those of `step`. -/
theorem stepRunsTheFrontCommand : Obligations.StepRunsTheFrontCommand :=
  ⟨fun s c rest h => by rw [step, h]; rfl, fun s h => by rw [step, h]⟩

/-- Settles O2: a full reset keeps its inputs, and every other command leaves what it does not own. -/
theorem noCommandStopsThePart : Obligations.NoCommandStopsThePart := by
  intro i s
  by_cases hreset : IsFullReset i
  · obtain ⟨t, ht, h, hpin⟩ := exec_fullReset hreset s
    exact ⟨t, ht, h.pending, fun hi _ => hpin hi, fun _ _ => h.fieldSignal, fun _ _ => h.trunkSignal⟩
  · obtain ⟨t, ht, -, h⟩ := exec_frame i s hreset
    refine ⟨t, ht, h.pending, fun _ hi => h.resetPin ?_, fun hdown hup => h.fieldSignal ?_,
      fun hdown hup => h.trunkSignal ?_⟩
    · rintro ⟨⟩; exact hi rfl
    · rintro (_ | _)
      exacts [hdown _ rfl, hup rfl]
    · rintro (_ | _)
      exacts [hdown _ rfl, hup rfl]

/-- Settles O4: each of these parts is owned by its own commands alone. -/
theorem configurationChangesOnlyAtItsOwnCommands : Obligations.ConfigurationChangesOnlyAtItsOwnCommands := by
  intro i s t ht hreset hpower hassert
  have h := (frame_of_exec ht fun hfull => hfull.elim hreset fun hfull => hfull.elim hpower hassert).2
  refine ⟨fun hi => h.weights ?_, fun hi => h.clockSet ?_, fun hi hi' => h.time ?_, fun hw hs hc => h.opts ?_,
    fun hi => h.windows ?_⟩
  · rintro ⟨⟩; exact hi rfl
  · rintro ⟨⟩; exact hi rfl
  · rintro (_ | _)
    exacts [hi rfl, hi' rfl]
  · rintro (_ | _ | _)
    exacts [hw rfl, hs rfl, hc rfl]
  · rintro ⟨⟩; exact hi rfl

/-- Settles O8. -/
theorem stepConservesObservationSlots : Obligations.StepConservesObservationSlots :=
  fun _ _ hs h => (keeps_of_step h).pool hs

/-- Settles O9. -/
theorem stepKeepsQueuesAndOptionsInRange : Obligations.StepKeepsQueuesAndOptionsInRange :=
  fun _ _ ⟨hqueues, hopts⟩ h => ⟨(keeps_of_step h).queues hopts hqueues, (keeps_of_step h).options hopts⟩

/-- Settles O10. -/
theorem stepKeepsTalliesInRange : Obligations.StepKeepsTalliesInRange :=
  fun _ _ hs h => (keeps_of_step h).tallies hs

/-- Settles O11: every step keeps the tables and the runs, and the longest of the gaps between the runs laid in order is
the longest free stretch. -/
theorem stepKeepsRunsApart : Obligations.StepKeepsRunsApart :=
  ⟨fun _ _ ⟨htables, hruns⟩ h => ⟨(keeps_of_step h).tables htables, (keeps_of_step h).runs htables hruns⟩,
    fun _ ⟨htables, hruns⟩ =>
      have ⟨hlongest, hle⟩ := hruns.largestFree_spec htables
      ⟨hlongest, hle, inRun_iff⟩⟩

/-! ### Edges of the live conditions (R183, R184) -/

/-- The edges of every command but the full resets: its own edges, or none. -/
theorem edges_of_exec {i : Instr} {s t : State} (ht : exec i s = .next t) (hreset : ¬ IsFullReset i) :
    Edges s t ∨ Looks s t := by
  by_cases hread : i = .readNotices
  · obtain ⟨u, hu, h⟩ := execReadNotices_looks (s := s)
    obtain rfl := Host.Outcome.next.inj (ht.symm.trans (hread ▸ hu))
    exact .inr h
  by_cases hselect : i = .upstreamSelect
  · obtain ⟨u, hu, h⟩ := execUpstreamSelect_looks (s := s)
    obtain rfl := Host.Outcome.next.inj (ht.symm.trans (hselect ▸ hu))
    exact .inr h
  · obtain ⟨u, hu, h⟩ := exec_move i s hreset hread hselect
    obtain rfl := Host.Outcome.next.inj (ht.symm.trans hu)
    exact .inl h.edges

/-- Settles O5: every other command is a move, whose latches stay, and the upstream selection takes the waiting NOTICE
alone. -/
theorem latchesStayUntilRead : Obligations.LatchesStayUntilRead := by
  intro i s t ht hread hreset hpower hassert n hn
  by_cases hselect : i = .upstreamSelect
  · obtain rfl := hselect
    obtain rfl := Host.Outcome.next.inj ht
    split
    · rwa [selectUpstream_latches]
    · exact hn
  · obtain ⟨u, hu, h⟩ :=
      exec_move i s (fun hfull => hfull.elim hreset fun hfull => hfull.elim hpower hassert) hread hselect
    obtain rfl := Host.Outcome.next.inj (ht.symm.trans hu)
    exact h.edges.latched n hn

/-- The latches that `withEdges` leaves are those of R183, and the waiting NOTICE that of R184. -/
theorem withEdges_notices (s : State) (change : State → State) (hn : (change s).notices = s.notices) :
    (∀ n, n < 21 → ((withEdges s change).notices.latches.getLsbD n = true ↔ s.notices.latches.getLsbD n = true ∨
      ((liveConditions s).getLsbD n = false ∧ (liveConditions (change s)).getLsbD n = true ∧
        (change s).opts.noticeRise.getLsbD n = true) ∨
      ((liveConditions s).getLsbD n = true ∧ (liveConditions (change s)).getLsbD n = false ∧
        (change s).opts.noticeFall.getLsbD n = true))) ∧
    ((withEdges s change).notices.waiting = true ↔ s.notices.waiting = true ∨
      ∃ n, n < 21 ∧ s.notices.latches.getLsbD n = false ∧ (withEdges s change).notices.latches.getLsbD n = true) := by
  constructor
  · intro n hlt
    rw [← hn]
    exact latchEdges_getLsbD _ _ _ _ hlt
  · have hwaiting : (withEdges s change).notices.waiting = true ↔ (change s).notices.waiting = true ∨
        latchEdges (change s).opts (change s).notices.latches (liveConditions s) (liveConditions (change s)) ≠
          (change s).notices.latches := by
      simp [withEdges, noteEdges]
    rw [hwaiting, latchEdges_ne_iff, hn]
    simp [withEdges, noteEdges, hn]

/-- Settles O7. -/
theorem edgesSetLatches : Obligations.EdgesSetLatches := by
  refine ⟨fun s change hn => ⟨(withEdges_notices s change hn).1, (withEdges_notices s change hn).2, rfl⟩, ?_⟩
  intro i s t ht hreset hpower hassert n hlt
  rcases edges_of_exec ht fun hfull => hfull.elim hreset fun hfull => hfull.elim hpower hassert with h | h
  · exact ⟨h.rise n, h.fall n hlt, h.newly n⟩
  · refine ⟨fun hs hu _ => ?_, fun hs hu _ => ?_, fun hs hu => ?_⟩
    · rw [h.conditions, hs] at hu; exact absurd hu Bool.false_ne_true
    · rw [h.conditions, hs] at hu; exact absurd hu.symm Bool.false_ne_true
    · rw [h.latches n hu] at hs; exact absurd hs.symm Bool.false_ne_true

/-! ### Settles of the values of the conditions and of the position estimate -/

/-- A bit of a number by its bits. -/
theorem testBit_bitsToNat (l : List Bool) (n : Nat) : (bitsToNat l).testBit n = (l[n]?).getD false := by
  induction l generalizing n with
  | nil => simp [bitsToNat]
  | cons b l ih =>
    cases n with
    | zero => cases b <;> simp [bitsToNat, Nat.testBit_zero, Nat.add_mod]
    | succ n =>
      have hhalf : (b.toNat + 2 * bitsToNat l) / 2 = bitsToNat l := by cases b <;> simp; omega
      rw [bitsToNat, Nat.testBit_succ, hhalf, ih, List.getElem?_cons_succ]

/-- A live condition is the bit at its place. -/
theorem liveConditions_getLsbD (s : State) {n : Nat} (hn : n < 21) :
    (liveConditions s).getLsbD n = ((conditionBits s)[n]?).getD false := by
  rw [liveConditions, BitVec.getLsbD_ofNat, decide_eq_true hn, Bool.true_and, testBit_bitsToNat]

/-- The engine is STALLED while a finding is kept (R101, R116). -/
theorem stalled_iff (e : Engine) : stalled e = true ↔ ∃ w f, e = .settling w ∧ w.kept = some f := by
  cases e with
  | settling w => simp [stalled, Option.isSome_iff_exists]
  | _ => simp [stalled]

/-- Settles O6: the bits in the order of `conditionBits`. -/
theorem liveConditionsByBit : Obligations.LiveConditionsByBit := by
  intro s
  refine ⟨fun l => ?_, fun l => ?_, ?_, ?_, ?_, ?_, ?_⟩
  · have hbit : (conditionBits s)[l.val]? = some (attached (s.lane l)) := by
      simp [conditionBits, State.lane, List.getElem?_append]
    rw [liveConditions_getLsbD s (by omega), hbit]
    rfl
  · rw [liveConditions_getLsbD s (by omega)]
    simp [conditionBits, State.lane, List.getElem?_append]
  · rw [liveConditions_getLsbD s (by omega)]
    simp [conditionBits, findqHigh]
  · rw [liveConditions_getLsbD s (by omega)]
    simp [conditionBits]
  · rw [liveConditions_getLsbD s (by omega)]
    simp [conditionBits, poolLow]
  · rw [liveConditions_getLsbD s (by omega)]
    simp [conditionBits, deferHigh, Config.deferHighLevel]
  · rw [liveConditions_getLsbD s (by omega), ← stalled_iff]
    simp [conditionBits, settleStalled]

/-- Settles O16. -/
theorem estimateIsNearestMillimetre : Obligations.EstimateIsNearestMillimetre := by
  refine fun w p => ⟨?_, fun e he => ((positionEstimate_eq_some_iff w p e).mp he).2⟩
  unfold positionEstimate
  split
  next h => simp [h]
  next h => simp [h]

end Sys2Proof.Machine
end

section
/-! What detaching a lane, opening a context, the freeze and the release leave, said once for the statements about them. -/

namespace Sys2Proof.Machine

section
variable {s t : State} {l : Fin 8}

/-! ### Lanes in no segment, and lanes that count -/

theorem currentSegment_eq_some {m : LaneMode} {g : Nat} : currentSegment m = some g ↔ ∃ d, m = .inSegment g d := by
  cases m <;> simp [currentSegment]

theorem notCounting_iff : NotCounting s l ↔ currentSegment (s.lane l).mode = none := by
  rw [Option.eq_none_iff_forall_ne_some]
  simp only [ne_eq, currentSegment_eq_some, not_exists]
  rfl

theorem CountsIn.currentSegment {g : Nat} {c : Fin 16} {ctx : Context} (h : CountsIn s l g c ctx) :
    currentSegment (s.lane l).mode = some g := currentSegment_eq_some.mpr h.lane

/-- A lane in no segment owns no context. -/
theorem NotCounting.laneContext (h : NotCounting s l) : laneContext s l = none := by
  unfold Machine.laneContext
  rw [notCounting_iff.mp h]

/-- A lane is in no segment or counts, where lanes and contexts are bound (R24). -/
theorem ClaimsOk.counts_or_not (h : ClaimsOk s) (l : Fin 8) :
    NotCounting s l ∨ ∃ g c ctx, CountsIn s l g c ctx := by
  by_cases hn : NotCounting s l
  · exact .inl hn
  · right
    simp only [NotCounting, ne_eq, not_forall, not_not] at hn
    obtain ⟨g, d, hd⟩ := hn
    obtain ⟨c, ctx, hcount, hctx, hg, hp⟩ := h.lane l g d hd
    exact ⟨g, c, ctx, ⟨d, hd⟩, ⟨hctx, hp, hg ▸ hcount⟩, hg⟩

/-- What a lane that counts rests on is the same in two states. -/
theorem CountsIn.congr {g : Nat} {c : Fin 16} {ctx : Context} (h : CountsIn s l g c ctx)
    (hlane : (t.lane l).mode = (s.lane l).mode) (hstore : t.store = s.store) (hpool : t.pool = s.pool) :
    CountsIn t l g c ctx := by
  obtain ⟨hm, ⟨hctx, hp, r, hr, hphase⟩, hg⟩ := h
  refine ⟨hlane ▸ hm, ⟨?_, hp, r, ?_, hphase⟩, hg⟩
  · unfold State.context; rw [hpool]; exact hctx
  · unfold State.segment; rw [hstore]; exact hr

/-- A close changes what it is said to change from any state that agrees with its own. -/
theorem Closes.congr {c : Fin 16} {ctx : Context} {cause : CloseCause} {u v : State} (h : Closes s t c ctx l cause)
    (hstore : u.store = s.store) (hpool : u.pool = s.pool) (hsettle : u.settle = s.settle)
    (hlanes : ∀ m, m ≠ l → u.lane m = s.lane m) (hvstore : v.store = t.store) (hvpool : v.pool = t.pool)
    (hvsettle : v.settle = t.settle) (hvlanes : ∀ m, m ≠ l → v.lane m = t.lane m) : Closes u v c ctx l cause := by
  have hseg (g : Nat) : u.segment g = s.segment g ∧ v.segment g = t.segment g := by
    unfold State.segment; rw [hstore, hvstore]; exact ⟨rfl, rfl⟩
  have hctx (d : Fin 16) : u.context d = s.context d ∧ v.context d = t.context d := by
    unfold State.context; rw [hpool, hvpool]; exact ⟨rfl, rfl⟩
  refine ⟨fun he => ?_, fun he => ?_, fun d hd => ?_, fun g hg => ?_, ?_, ?_, fun m hm => ?_⟩
  · rw [(hctx c).2, hvsettle, hsettle, (hseg _).1, (hseg _).2]; exact h.empty he
  · rw [(hctx c).2, hvsettle, hsettle, (hseg _).1, (hseg _).2]; exact h.handOff he
  · rw [(hctx d).1, (hctx d).2]; exact h.contexts d hd
  · rw [(hseg g).1, (hseg g).2]; exact h.segments g hg
  · rw [hpool, hvpool]; exact h.slots
  · rw [hstore, hvstore]; exact h.store
  · rw [hvlanes m hm, hlanes m hm]; exact h.others m hm

/-! ### Detachment (R26, R61) -/

/-- The queue of a lane discarded into its drop tally (R61). -/
def queueDropped (s : State) (l : Fin 8) : State :=
  raiseDrop (s.setLane l { s.lane l with queue := [] }) l (s.lane l).queue.length

/-- A lane DETACHED, with its flags clear and its signal dropped (R26). -/
def laneGone (s : State) (l : Fin 8) : State :=
  withEdges s fun s =>
    handSignal (s.setLane l { s.lane l with mode := .detached, paused := false, overrun := false }) l none

theorem queueDropped_lane (s : State) (l m : Fin 8) : (queueDropped s l).lane m = if m = l then
    { s.lane l with queue := [], dropTally := raised (s.lane l).dropTally (s.lane l).queue.length } else s.lane m := by
  rw [queueDropped, raiseDrop_lane, State.setLane_lane, State.setLane_lane, if_pos rfl]
  split <;> rfl

theorem queueDropped_frame (s : State) (l : Fin 8) :
    queueDropped s l = { s with lanes := (queueDropped s l).lanes } := by
  apply State.ext_fields <;> simp [queueDropped]

theorem laneGone_lane (s : State) (l m : Fin 8) : (laneGone s l).lane m = if m = l then
    { s.lane l with mode := .detached, paused := false, overrun := false } else s.lane m := by
  rw [← State.setLane_lane]; rfl

/-- Detachment by its parts: the queue, the context owned, the lane (R26). -/
theorem detach_eq (hm : (s.lane l).mode ≠ .detached) : detach s l = laneGone (match laneContext s l with
    | some c => closeContext (queueDropped s l) c .laneDown
    | none => queueDropped s l) l := by
  have hcontext : laneContext (queueDropped s l) l = laneContext s l := by
    unfold laneContext
    rw [queueDropped_lane, if_pos rfl]; rfl
  rw [← hcontext]
  unfold detach
  rw [if_neg hm]
  rfl

/-- A DETACHED lane is left (R26). -/
theorem detach_of_detached (hm : (s.lane l).mode = .detached) : detach s l = s := by
  unfold detach; rw [if_pos hm]

/-- What a lane in no segment leaves as it is detached: its own record and its signal. -/
theorem detach_notCounting (hm : (s.lane l).mode ≠ .detached) (h : NotCounting s l) :
    detach s l = laneGone (queueDropped s l) l := by
  rw [detach_eq hm, h.laneContext]

/-- What a lane that counts leaves as it is detached: its context closed too. -/
theorem detach_counting {g : Nat} {c : Fin 16} {ctx : Context} (hm : (s.lane l).mode ≠ .detached)
    (h : CountsIn s l g c ctx) : detach s l = laneGone (closeContext (queueDropped s l) c .laneDown) l := by
  rw [detach_eq hm, h.laneContext]

/-- The context a detachment closes. -/
theorem detach_closes {g : Nat} {c : Fin 16} {ctx : Context} (hm : (s.lane l).mode ≠ .detached)
    (h : CountsIn s l g c ctx) : Closes s (detach s l) c ctx l .laneDown := by
  have hq : CountsIn (queueDropped s l) l g c ctx := by
    refine h.congr ?_ ?_ ?_
    · rw [queueDropped_lane, if_pos rfl]
    · simp [queueDropped]
    · simp [queueDropped]
  rw [detach_counting hm h]
  refine (closeContext_spec _ c ctx l .laneDown hq.owned).1.congr (by simp [queueDropped]) (by simp [queueDropped])
    (by simp [queueDropped]) (fun m hml => ?_) (by simp [laneGone]) (by simp [laneGone]) (by simp [laneGone])
    fun m hml => ?_
  · rw [queueDropped_lane, if_neg hml]
  · rw [laneGone_lane, if_neg hml]

/-- The lane detached, its signal, and what else stays (R26, R61). -/
theorem detach_spec (hm : (s.lane l).mode ≠ .detached)
    (h : NotCounting s l ∨ ∃ g c ctx, CountsIn s l g c ctx) :
    (detach s l).lane l = { s.lane l with
      mode := .detached, queue := [], paused := false, overrun := false
      dropTally := raised (s.lane l).dropTally (s.lane l).queue.length } ∧
    (detach s l).field = { s.field with signals := s.field.signals.set l.val none l.isLt } ∧
    (detach s l).lanes.next = s.lanes.next ∧
    detach s l = { s with
      lanes := (detach s l).lanes, field := (detach s l).field, store := (detach s l).store
      pool := (detach s l).pool, settle := (detach s l).settle, notices := (detach s l).notices } := by
  rcases h with hn | ⟨g, c, ctx, hc⟩
  · rw [detach_notCounting hm hn]
    refine ⟨?_, by simp [laneGone, handSignal, queueDropped], by simp [laneGone, queueDropped, raiseDrop], ?_⟩
    · rw [laneGone_lane, queueDropped_lane]; simp
    · apply State.ext_fields <;> simp [laneGone, queueDropped]
  · have hq : CountsIn (queueDropped s l) l g c ctx := by
      refine hc.congr ?_ ?_ ?_
      · rw [queueDropped_lane, if_pos rfl]
      · simp [queueDropped]
      · simp [queueDropped]
    obtain ⟨-, hlane, hnext⟩ := closeContext_spec _ c ctx l .laneDown hq.owned
    have hframe := closeContext_frame (queueDropped s l) c .laneDown
    have hown : (closeContext (queueDropped s l) c .laneDown).lane l = (queueDropped s l).lane l := by
      rw [hlane]
      split
      · refine flagLane_mode _ ?_
        obtain ⟨d, hd⟩ := hq.lane
        rw [hd]; rfl
      · rfl
    rw [detach_counting hm hc]
    refine ⟨?_, ?_, ?_, ?_⟩
    · rw [laneGone_lane, hown, queueDropped_lane]; simp
    · simp only [laneGone, handSignal, withEdges_field, State.setLane_field]
      rw [hframe]; simp [queueDropped]
    · refine Eq.trans ?_ (hnext.trans ?_)
      · simp [laneGone]
      · simp [queueDropped, raiseDrop]
    · apply State.ext_fields <;> simp [laneGone] <;> rw [hframe] <;> simp [queueDropped]

/-! ### A context opened (R32, R69) -/

/-- A context as it is opened (R69). -/
def freshContext (s : State) (l : Fin 8) (g : Nat) (prior : Prior) : Context :=
  { segment := g, phase := .opened l, prior := prior, openTime := s.clock.value, truncated := false,
    capDiscards := 0, poolDiscards := 0, observations := [] }

theorem openContext_eq (s : State) (l : Fin 8) (g : Nat) (c : Fin 16) (prior : Prior) : openContext s l g c prior =
    ((s.setContext c (some (freshContext s l g prior))).setPhase g (.counting c)).setMode l
      (.inSegment g (dwellStart s.opts l)) := rfl

theorem openContext_context (s : State) (l : Fin 8) (g : Nat) (c d : Fin 16) (prior : Prior) :
    (openContext s l g c prior).context d = if d = c then some (freshContext s l g prior) else s.context d := by
  rw [← State.setContext_context, openContext_eq]
  unfold State.context
  simp

theorem openContext_segment (s : State) (l : Fin 8) (g : Nat) (c : Fin 16) (prior : Prior) (h : Nat) :
    (openContext s l g c prior).segment h =
      if h = g then (s.segment g).map (fun r => { r with phase := .counting c }) else s.segment h :=
  State.setPhase_segment (s.setContext c (some (freshContext s l g prior))) g h (.counting c)

theorem openContext_lane (s : State) (l m : Fin 8) (g : Nat) (c : Fin 16) (prior : Prior) :
    (openContext s l g c prior).lane m =
      if m = l then { s.lane l with mode := .inSegment g (dwellStart s.opts l) } else s.lane m := by
  have hlane (k : Fin 8) : ((s.setContext c (some (freshContext s l g prior))).setPhase g (.counting c)).lane k = s.lane k :=
    State.lane_eq_of_lanes (by simp) k
  rw [openContext_eq, State.setMode_lane, hlane, hlane]

theorem openContext_frame (s : State) (l : Fin 8) (g : Nat) (c : Fin 16) (prior : Prior) :
    openContext s l g c prior = { s with
      store := (openContext s l g c prior).store, pool := (openContext s l g c prior).pool
      lanes := (openContext s l g c prior).lanes, notices := (openContext s l g c prior).notices } := by
  apply State.ext_fields <;> simp [openContext_eq]

/-! ### The release (R83, R122) -/

/-- The state of a release before a waiting QUERY_ITEM is looked after. -/
def released (s : State) (w : Settle) (r : Segment) (c : Fin 16) (ctx : Context) : State :=
  let s := s.setSegment w.segment
    { r with phase := .settled, countNumber := nextCount r.countNumber
             last := (closedBy ctx).map fun x => (x.2, w.tallies) }
  let s := flagWaiting (clearHolds (freeContextSlots s c ctx))
  { s with settle := { s.settle with engine := .scanning } }

theorem release_eq (s : State) (w : Settle) (r : Segment) (c : Fin 16) (ctx : Context) :
    release s w r c ctx = captureQuery (released s w r c ctx) := rfl

theorem released_segment (s : State) (w : Settle) (r : Segment) (c : Fin 16) (ctx : Context) (h : Nat) :
    (released s w r c ctx).segment h = if h = w.segment then
      some { r with
        phase := .settled, countNumber := nextCount r.countNumber
        last := (closedBy ctx).map fun x => (x.2, w.tallies) } else s.segment h :=
  State.setSegment_segment s w.segment h _

theorem released_context (s : State) (w : Settle) (r : Segment) (c d : Fin 16) (ctx : Context) :
    (released s w r c ctx).context d = if d = c then none else s.context d := by
  rw [← State.setContext_context]; rfl

theorem released_lane (s : State) (w : Settle) (r : Segment) (c : Fin 16) (ctx : Context) (l : Fin 8) :
    (released s w r c ctx).lane l = flagLane (s.lane l) :=
  flagWaiting_lane (clearHolds (freeContextSlots (s.setSegment w.segment _) c ctx)) l

/-- Looking after a waiting QUERY_ITEM changes the Request Queue alone (R18). -/
theorem captureQuery_frame (s : State) : captureQuery s = { s with requests := (captureQuery s).requests } := by
  unfold captureQuery
  split
  · split <;> rfl
  · rfl

/-! ### The freeze (R103) -/

/-- A freeze takes the head of the Settle Queue, whose context is in use. -/
theorem freeze_taking {g : Nat} {rest : List Nat} {c : Fin 16} {ctx : Context} (htaking : s.settle.engine = .taking)
    (hqueue : s.settle.queue = g :: rest) (hctx : settlingContext s g = some (c, ctx)) :
    freeze s = { holdItems s g ctx.observations with
      settle := { queue := rest, engine := .settling (freshSettle s g) } } := by
  unfold freeze
  rw [htaking, hqueue]
  dsimp only
  rw [hctx]; rfl

end

end Sys2Proof.Machine
end

section
/-! What a count restart leaves, part by part (R21, R44, R62, R85, R125, R141, R155, R170). -/

namespace Sys2Proof.Machine

/-! ### Lane by lane -/

/-- Lanes changed one at a time, each by a change that speaks of that lane alone. -/
theorem foldl_lanes {α : Type} (seen : State → Fin 8 → α) (f : State → Fin 8 → State) (becomes : α → α)
    (hown : ∀ s l, seen (f s l) l = becomes (seen s l)) (hother : ∀ s l m, m ≠ l → seen (f s l) m = seen s m)
    (ls : List (Fin 8)) (hnodup : ls.Nodup) (s : State) (m : Fin 8) :
    seen (ls.foldl f s) m = if m ∈ ls then becomes (seen s m) else seen s m := by
  induction ls generalizing s with
  | nil => rfl
  | cons l ls ih =>
    obtain ⟨hl, hrest⟩ := List.nodup_cons.mp hnodup
    rw [List.foldl_cons, ih hrest]
    by_cases hm : m = l
    · subst hm
      rw [if_neg hl, if_pos List.mem_cons_self, hown]
    · rw [hother s l m hm]
      simp [hm]

theorem lanesInOrder_nodup : lanesInOrder.Nodup := by decide

theorem mem_lanesInOrder (l : Fin 8) : l ∈ lanesInOrder := by revert l; decide

/-- A part of the state that no lane's change touches. -/
theorem foldl_stays {α β : Type} (part : State → β) (f : State → α → State) (h : ∀ s a, part (f s a) = part s)
    (xs : List α) (s : State) : part (xs.foldl f s) = part s := by
  induction xs generalizing s with
  | nil => rfl
  | cons x xs ih => exact (ih _).trans (h s x)

/-! ### The lanes (R44, R62) -/

/-- A lane's record and the control signal that waits for it. -/
def laneAndSignal (s : State) (l : Fin 8) : Lane × Option Signal := (s.lane l, s.field.signals[l.val])

/-- A lane's record and signal after a count restart (R44, R62). -/
def restartedLane (x : Lane × Option Signal) : Lane × Option Signal :=
  if x.1.mode = .detached then x
  else ({ x.1 with mode := .idle, queue := [], paused := false, overrun := false
                   dropTally := raised x.1.dropTally x.1.queue.length },
    if x.1.paused then some .resume else x.2)

/-- What the restart of a lane that is not DETACHED leaves. -/
theorem restartLane_parts (s : State) (l : Fin 8) (hm : (s.lane l).mode ≠ .detached) :
    (∀ m, (restartLane s l).lane m = if m = l then (restartedLane (laneAndSignal s l)).1 else s.lane m) ∧
    (restartLane s l).field =
      { s.field with signals := s.field.signals.set l.val (restartedLane (laneAndSignal s l)).2 l.isLt } ∧
    (restartLane s l).lanes.next = s.lanes.next ∧
    restartLane s l = { s with
      lanes := (restartLane s l).lanes, field := (restartLane s l).field, notices := (restartLane s l).notices } := by
  have hset (m : Fin 8) : ((raiseDrop s l (s.lane l).queue.length).setLane l
      { (raiseDrop s l (s.lane l).queue.length).lane l with
        queue := [], mode := .idle, overrun := false, paused := false }).lane m =
      if m = l then (restartedLane (laneAndSignal s l)).1 else s.lane m := by
    rw [State.setLane_lane, raiseDrop_lane, raiseDrop_lane, if_pos rfl]
    split
    · rw [restartedLane, if_neg (by exact hm)]; rfl
    · rfl
  have hsame : s.field = { s.field with signals := s.field.signals.set l.val s.field.signals[l.val] l.isLt } := by simp
  unfold restartLane
  rw [if_neg hm]
  cases hp : (s.lane l).paused with
  | true => exact ⟨hset, by simp [restartedLane, laneAndSignal, hm, hp, handSignal], rfl, rfl⟩
  | false =>
    refine ⟨hset, ?_, rfl, rfl⟩
    have hx : (restartedLane (laneAndSignal s l)).2 = s.field.signals[l.val] := by
      simp [restartedLane, laneAndSignal, hm, hp]
    rw [hx]; exact hsame

theorem restartLane_own (s : State) (l : Fin 8) :
    laneAndSignal (restartLane s l) l = restartedLane (laneAndSignal s l) := by
  by_cases hm : (s.lane l).mode = .detached
  · rw [restartLane, if_pos hm, restartedLane, if_pos (by exact hm)]
  · obtain ⟨hlane, hfield, -⟩ := restartLane_parts s l hm
    refine Prod.ext ?_ ?_
    · exact (hlane l).trans (if_pos rfl)
    · change (restartLane s l).field.signals[l.val] = _
      rw [hfield]; simp

theorem restartLane_other (s : State) (l m : Fin 8) (hml : m ≠ l) :
    laneAndSignal (restartLane s l) m = laneAndSignal s m := by
  by_cases hm : (s.lane l).mode = .detached
  · rw [restartLane, if_pos hm]
  · obtain ⟨hlane, hfield, -⟩ := restartLane_parts s l hm
    have hne : l.val ≠ m.val := fun h => hml (Fin.ext h.symm)
    refine Prod.ext ?_ ?_
    · exact (hlane m).trans (if_neg hml)
    · change (restartLane s l).field.signals[m.val] = _
      rw [hfield]; simp [hne, laneAndSignal]

/-- All lanes restarted (R44, R62). -/
def lanesRestarted (s : State) : State := lanesInOrder.foldl restartLane s

theorem lanesRestarted_lane (s : State) (l : Fin 8) :
    laneAndSignal (lanesRestarted s) l = restartedLane (laneAndSignal s l) := by
  rw [lanesRestarted, foldl_lanes laneAndSignal restartLane restartedLane restartLane_own restartLane_other _
    lanesInOrder_nodup, if_pos (mem_lanesInOrder l)]

/-- Lanes, signals and notices alone differ, and of the lanes not the next-lane pointer. -/
structure LanesOnly (s t : State) : Prop where
  next : t.lanes.next = s.lanes.next
  field : t.field = { s.field with signals := t.field.signals }
  rest : t = { s with lanes := t.lanes, field := t.field, notices := t.notices }

theorem LanesOnly.refl (s : State) : LanesOnly s s := ⟨rfl, rfl, rfl⟩

theorem LanesOnly.trans {s t u : State} (h : LanesOnly s t) (k : LanesOnly t u) : LanesOnly s u where
  next := k.next.trans h.next
  field := by rw [k.field, h.field]
  rest := by
    have hrest := k.rest
    rw [h.rest] at hrest
    exact hrest

/-- Lanes changed one at a time leave the rest. -/
theorem LanesOnly.foldl {α : Type} {f : State → α → State} (h : ∀ s a, LanesOnly s (f s a)) (xs : List α) (s : State) :
    LanesOnly s (xs.foldl f s) := by
  induction xs generalizing s with
  | nil => exact .refl s
  | cons x xs ih => exact (h s x).trans (ih _)

theorem restartLane_lanesOnly (s : State) (l : Fin 8) : LanesOnly s (restartLane s l) := by
  by_cases hm : (s.lane l).mode = .detached
  · rw [restartLane, if_pos hm]; exact .refl s
  · obtain ⟨-, hfield, hnext, hframe⟩ := restartLane_parts s l hm
    exact ⟨hnext, by rw [hfield], hframe⟩

/-- What all lanes restarted leave beside lanes, signals and notices. -/
theorem lanesRestarted_only (s : State) : LanesOnly s (lanesRestarted s) :=
  .foldl restartLane_lanesOnly lanesInOrder s

/-! ### The rest of the restart -/

/-- The state of a count restart before the deferred events are applied (R187). -/
def countCleared (s : State) : State := restartStore (restartPool (abortSettle (lanesRestarted s)))

theorem restartCount_eq (s : State) :
    restartCount s = emptyFieldOut (emptyFindings (drainDeferred (countCleared s))) := rfl

theorem restartStore_segment (s : State) (g : Nat) : (restartStore s).segment g = (s.segment g).map restartSegment :=
  tget_tmap (fun _ r => restartSegment r) s.store.segments g

theorem restartStore_item (s : State) (i : Nat) : (restartStore s).item i = (s.item i).map restartItem :=
  tget_tmap (fun _ it => restartItem it) s.store.items i

/-- The pool emptied and the settle aborted leave the store. -/
theorem emptied_store (s : State) : (restartPool (abortSettle s)).store = s.store := by
  rw [restartPool, withEdges_store, abortSettle, withEdges_store]

theorem countCleared_store (s : State) :
    (countCleared s).store = { s.store with
      segments := tmap (fun _ r => restartSegment r) s.store.segments
      items := tmap (fun _ it => restartItem it) s.store.items } := by
  rw [countCleared, restartStore, emptied_store, (lanesRestarted_only s).rest]

theorem countCleared_segment (s : State) (g : Nat) :
    (countCleared s).segment g = (s.segment g).map restartSegment := by
  unfold State.segment
  rw [countCleared_store, tget_tmap]

theorem countCleared_item (s : State) (i : Nat) : (countCleared s).item i = (s.item i).map restartItem := by
  unfold State.item
  rw [countCleared_store, tget_tmap]

/-- What a count restart has made of the other parts before the deferred events are applied (R85, R125). -/
theorem countCleared_frame (s : State) : countCleared s = { s with
    lanes := (lanesRestarted s).lanes, field := (lanesRestarted s).field, store := (countCleared s).store
    pool := { contexts := Vector.replicate 16 none, freeSlots := 4096 }, settle := { queue := [], engine := .idle }
    notices := (countCleared s).notices } := by
  have h := (lanesRestarted_only s).rest
  rw [countCleared]
  generalize lanesRestarted s = u at h ⊢
  apply State.ext_fields <;> simp [restartStore, restartPool, abortSettle, Config.poolSlots] <;> rw [h]

end Sys2Proof.Machine
end

section
/-! Lanes, contexts, segments and the Settle Queue bound to each other (R24, R66, R79, R100, R101): what a close, an open, a
freeze, a release and a restart make of the bindings, and that every step keeps them. -/

namespace Sys2Proof.Machine

/-! ### What the bindings speak of -/

/-- The segment a lane is in (R24). -/
def inSegmentOf (s : State) (l : Fin 8) : Option Nat := currentSegment (s.lane l).mode

/-- The segment and the owner of a context in use. -/
def claimOf (s : State) (c : Fin 16) : Option (Nat × ContextPhase) := (s.context c).map contextClaim

/-- The segments in settle or queued for it (R79, R100). -/
def settleList (s : State) : List Nat := inSettleList s.settle.engine ++ s.settle.queue

theorem inSegmentOf_eq_some {s : State} {l : Fin 8} {g : Nat} :
    inSegmentOf s l = some g ↔ ∃ d, (s.lane l).mode = .inSegment g d := by
  unfold inSegmentOf currentSegment
  split
  next h d hm => rw [hm]; simp [Option.some.injEq]
  next hm => simpa using hm g

theorem claimOf_eq_some {s : State} {c : Fin 16} {g : Nat} {p : ContextPhase} :
    claimOf s c = some (g, p) ↔ ∃ ctx, s.context c = some ctx ∧ ctx.segment = g ∧ ctx.phase = p := by
  simp [claimOf, contextClaim, Option.map_eq_some_iff]

theorem countsIn_unique {s : State} {g : Nat} {c d : Fin 16} (h : countsIn s g c) (k : countsIn s g d) : c = d := by
  obtain ⟨r, hr, hp⟩ := h
  obtain ⟨q, hq, hd⟩ := k
  obtain rfl := Option.some.inj (hr.symm.trans hq)
  exact Phase.counting.inj (hp.symm.trans hd)

theorem settlesIn_unique {s : State} {g : Nat} {c d : Fin 16} (h : settlesIn s g c) (k : settlesIn s g d) : c = d := by
  obtain ⟨r, hr, hp⟩ := h
  obtain ⟨q, hq, hd⟩ := k
  obtain rfl := Option.some.inj (hr.symm.trans hq)
  exact Phase.settling.inj (hp.symm.trans hd)

theorem not_settlesIn_of_countsIn {s : State} {g : Nat} {c : Fin 16} (h : countsIn s g c) (d : Fin 16) :
    ¬ settlesIn s g d := by
  obtain ⟨r, hr, hp⟩ := h
  rintro ⟨q, hq, hd⟩
  obtain rfl := Option.some.inj (hr.symm.trans hq)
  exact Phase.noConfusion (hp.symm.trans hd)

/-- The bindings in these words. -/
theorem claimsOk_iff (s : State) : ClaimsOk s ↔
    (∀ l g, inSegmentOf s l = some g → ∃ c, countsIn s g c ∧ claimOf s c = some (g, .opened l)) ∧
    (∀ c g l, claimOf s c = some (g, .opened l) → countsIn s g c ∧ inSegmentOf s l = some g) ∧
    (∀ c g l cause, claimOf s c = some (g, .closed l cause) → settlesIn s g c) ∧
    (∀ g c, countsIn s g c → ∃ l, claimOf s c = some (g, .opened l)) ∧
    ∀ g c, settlesIn s g c → ∃ l cause, claimOf s c = some (g, .closed l cause) := by
  simp only [inSegmentOf_eq_some, claimOf_eq_some]
  constructor
  · intro h
    refine ⟨?_, ?_, ?_, ?_, ?_⟩
    · rintro l g ⟨d, hd⟩
      obtain ⟨c, ctx, hcount, hctx, hg, hp⟩ := h.lane l g d hd
      exact ⟨c, hcount, ctx, hctx, hg, hp⟩
    · rintro c g l ⟨ctx, hctx, rfl, hp⟩
      exact h.opened c ctx l hctx hp
    · rintro c g l cause ⟨ctx, hctx, rfl, hp⟩
      exact h.closed c ctx l cause hctx hp
    · intro g c hcount
      obtain ⟨ctx, l, hctx, hg, hp⟩ := h.counting g c hcount
      exact ⟨l, ctx, hctx, hg, hp⟩
    · intro g c hsettle
      obtain ⟨ctx, l, cause, hctx, hg, hp⟩ := h.settling g c hsettle
      exact ⟨l, cause, ctx, hctx, hg, hp⟩
  · rintro ⟨hlane, hopened, hclosed, hcounting, hsettling⟩
    refine ⟨?_, ?_, ?_, ?_, ?_⟩
    · intro l g d hd
      obtain ⟨c, hcount, ctx, hctx, hg, hp⟩ := hlane l g ⟨d, hd⟩
      exact ⟨c, ctx, hcount, hctx, hg, hp⟩
    · exact fun c ctx l hctx hp => hopened c _ l ⟨ctx, hctx, rfl, hp⟩
    · exact fun c ctx l cause hctx hp => hclosed c _ l cause ⟨ctx, hctx, rfl, hp⟩
    · intro g c hcount
      obtain ⟨l, ctx, hctx, hg, hp⟩ := hcounting g c hcount
      exact ⟨ctx, l, hctx, hg, hp⟩
    · intro g c hsettle
      obtain ⟨l, cause, ctx, hctx, hg, hp⟩ := hsettling g c hsettle
      exact ⟨ctx, l, cause, hctx, hg, hp⟩

/-- A state whose lanes, contexts and segments are bound, with its tables in their form. -/
structure Bound (s : State) : Prop where
  tables : TablesOk s
  claims : ClaimsOk s
  settle : SettleOk s

section
variable {s t : State}

/-- The bindings of lanes, contexts and segments are the same; the Settle Queue lists the same segments. -/
theorem bound_of_same (ht : TablesOk t) (hlane : ∀ l, inSegmentOf t l = inSegmentOf s l)
    (hclaim : ∀ c, claimOf t c = claimOf s c) (hcounts : ∀ g c, countsIn t g c ↔ countsIn s g c)
    (hsettles : ∀ g c, settlesIn t g c ↔ settlesIn s g c) (hlist : settleList t = settleList s)
    (hidle : t.settle.engine = .idle → t.settle.queue = []) (htaking : t.settle.engine = .taking → t.settle.queue ≠ [])
    (hs : Bound s) : Bound t := by
  refine ⟨ht, ?_, ?_, ?_, hidle, htaking⟩
  · rw [claimsOk_iff]
    simp only [hlane, hclaim, hcounts, hsettles]
    exact (claimsOk_iff s).mp hs.claims
  · change (settleList t).Nodup
    rw [hlist]
    exact hs.settle.once
  · intro g
    have hholds : g ∈ settleList s ↔ ∃ c, settlesIn s g c := hs.settle.holds g
    change g ∈ settleList t ↔ _
    rw [hlist, hholds]
    simp only [hsettles]

/-- Nothing moved. -/
theorem SameClaims.bound (h : SameClaims s t) (ht : TablesOk t) (hs : Bound s) : Bound t :=
  bound_of_same ht h.lanes h.contexts (h.counts hs.tables) (h.settles hs.tables)
    (by rw [settleList, h.inSettle, h.queue]; rfl) (fun hidle => h.queue ▸ hs.settle.idle (h.idle.mp hidle))
    (fun htaking => h.queue ▸ hs.settle.taking (h.taking.mp htaking)) hs

/-- The bindings are in the lanes, the store, the pool and the Settle Queue alone. -/
theorem bound_of_parts (hs : Bound s) (hlanes : t.lanes = s.lanes) (hstore : t.store = s.store) (hpool : t.pool = s.pool)
    (hsettle : t.settle = s.settle) : Bound t := by
  have hsegment (g : Nat) : t.segment g = s.segment g := by unfold State.segment; rw [hstore]
  refine bound_of_same ⟨hstore ▸ hs.tables.segments, hstore ▸ hs.tables.items, hstore ▸ hs.tables.tagIndex⟩
    (fun l => ?_) (fun c => ?_) (fun g c => ?_) (fun g c => ?_) ?_ (hsettle ▸ hs.settle.idle) (hsettle ▸ hs.settle.taking) hs
  · unfold inSegmentOf; rw [State.lane_eq_of_lanes hlanes]
  · unfold claimOf State.context; rw [hpool]
  · unfold countsIn; rw [hsegment]
  · unfold settlesIn; rw [hsegment]
  · unfold settleList; rw [hsettle]

/-- A move that does not own the bindings keeps them. -/
theorem Move.bound {own : Part → Prop} (h : Move own s t) (hown : ¬ own .claims) (hs : Bound s) : Bound t :=
  (h.claims hown).bound (h.tables hs.tables) hs

theorem plain_bound (h : Plain s t) (hs : Bound s) : Bound t := h.bound id hs

/-! ### A close (R78, R79, R82) -/

/-- The context of lane l's segment closed and the lane in no segment: with no observation the segment counts and settles no
longer, with one or more it is SETTLING and queued. -/
theorem bound_of_close {c : Fin 16} {g : Nat} {l : Fin 8} {cause : CloseCause} (hs : Bound s) (htables : TablesOk t)
    (hopen : claimOf s c = some (g, .opened l)) (hlane : ∀ m, inSegmentOf t m = if m = l then none else inSegmentOf s m)
    (hclaim : ∀ d, d ≠ c → claimOf t d = claimOf s d) (hcounts : ∀ h d, countsIn t h d ↔ h ≠ g ∧ countsIn s h d)
    (hclosed : (claimOf t c = none ∧ (∀ h d, settlesIn t h d ↔ settlesIn s h d) ∧ t.settle = s.settle) ∨
      (claimOf t c = some (g, .closed l cause) ∧ (∀ h d, settlesIn t h d ↔ (h = g ∧ d = c) ∨ settlesIn s h d) ∧
        t.settle.queue = s.settle.queue ++ [g] ∧
        t.settle.engine = if s.settle.engine = .idle then .taking else s.settle.engine)) : Bound t := by
  obtain ⟨hin, hopened, hwasClosed, hcounting, hsettling⟩ := (claimsOk_iff s).mp hs.claims
  obtain ⟨hcount, hl⟩ := hopened c g l hopen
  have howner {d : Fin 16} {h : Nat} {m : Fin 8} (hd : claimOf s d = some (h, .opened m)) (hm : m = l) : d = c ∧ h = g := by
    obtain ⟨hc, hseg⟩ := hopened d h m hd
    obtain rfl : h = g := Option.some.inj (hseg.symm.trans (hm ▸ hl))
    exact ⟨countsIn_unique hc hcount, rfl⟩
  have hother {h : Nat} {d : Fin 16} (hd : countsIn s h d) (hne : h ≠ g) : d ≠ c := by
    rintro rfl
    obtain ⟨m, hm⟩ := hcounting h d hd
    exact hne (congrArg Prod.fst (Option.some.inj (hm.symm.trans hopen)))
  have hapart {h : Nat} {d : Fin 16} (hd : settlesIn s h d) : h ≠ g ∧ d ≠ c := by
    refine ⟨fun hg => not_settlesIn_of_countsIn hcount d (hg ▸ hd), fun hdc => ?_⟩
    obtain ⟨m, cause', hm⟩ := hsettling h d hd
    exact ContextPhase.noConfusion (congrArg Prod.snd (Option.some.inj ((hdc ▸ hm).symm.trans hopen)))
  have hclaims : ClaimsOk t := by
    rw [claimsOk_iff]
    refine ⟨fun m h hm => ?_, fun d h m hd => ?_, fun d h m cause' hd => ?_, fun h d hd => ?_, fun h d hd => ?_⟩
    · rw [hlane] at hm
      split at hm
      next => exact nomatch hm
      next hne =>
        obtain ⟨d, hd, hclaimed⟩ := hin m h hm
        have hhg : h ≠ g := by
          rintro rfl
          obtain rfl := countsIn_unique hd hcount
          exact hne (ContextPhase.opened.inj (congrArg Prod.snd (Option.some.inj (hclaimed.symm.trans hopen))))
        exact ⟨d, (hcounts h d).mpr ⟨hhg, hd⟩, (hclaim d (hother hd hhg)).trans hclaimed⟩
    · have hdc : d ≠ c := by
        rintro rfl
        rcases hclosed with ⟨hnone, -⟩ | ⟨hsome, -⟩
        · rw [hnone] at hd; exact nomatch hd
        · exact ContextPhase.noConfusion (congrArg Prod.snd (Option.some.inj (hsome.symm.trans hd)))
      rw [hclaim d hdc] at hd
      obtain ⟨hc, hseg⟩ := hopened d h m hd
      have hml : m ≠ l := fun hm => hdc (howner hd hm).1
      have hhg : h ≠ g := fun hh => hdc (countsIn_unique (hh ▸ hc) hcount)
      exact ⟨(hcounts h d).mpr ⟨hhg, hc⟩, by rw [hlane, if_neg hml]; exact hseg⟩
    · by_cases hdc : d = c
      · subst hdc
        rcases hclosed with ⟨hnone, -⟩ | ⟨hsome, hsettles, -⟩
        · rw [hnone] at hd; exact nomatch hd
        · exact (hsettles h d).mpr (.inl ⟨congrArg Prod.fst (Option.some.inj (hd.symm.trans hsome)), rfl⟩)
      · rw [hclaim d hdc] at hd
        have hset := hwasClosed d h m cause' hd
        rcases hclosed with ⟨-, hsettles, -⟩ | ⟨-, hsettles, -⟩
        · exact (hsettles h d).mpr hset
        · exact (hsettles h d).mpr (.inr hset)
    · obtain ⟨hne, hd⟩ := (hcounts h d).mp hd
      obtain ⟨m, hm⟩ := hcounting h d hd
      exact ⟨m, (hclaim d (hother hd hne)).trans hm⟩
    · have hkept (hd : settlesIn s h d) : ∃ m cause', claimOf t d = some (h, .closed m cause') := by
        obtain ⟨m, cause', hm⟩ := hsettling h d hd
        exact ⟨m, cause', (hclaim d (hapart hd).2).trans hm⟩
      rcases hclosed with ⟨-, hsettles, -⟩ | ⟨hsome, hsettles, -⟩
      · exact hkept ((hsettles h d).mp hd)
      · rcases (hsettles h d).mp hd with ⟨rfl, rfl⟩ | hd
        · exact ⟨l, cause, hsome⟩
        · exact hkept hd
  refine ⟨htables, hclaims, ?_⟩
  rcases hclosed with ⟨-, hsettles, hsame⟩ | ⟨-, hsettles, hqueue, hengine⟩
  · exact ⟨hsame ▸ hs.settle.once, fun h => by rw [hsame]; simpa only [hsettles] using hs.settle.holds h,
      hsame ▸ hs.settle.idle, hsame ▸ hs.settle.taking⟩
  · have hlist : inSettleList t.settle.engine = inSettleList s.settle.engine := by
      rw [hengine]; split
      next h => rw [h]; rfl
      next => rfl
    have hnew : g ∉ inSettleList s.settle.engine ++ s.settle.queue := by
      rw [hs.settle.holds]
      rintro ⟨d, hd⟩
      exact (hapart hd).1 rfl
    refine ⟨?_, fun h => ?_, fun hidle => ?_, fun _ => ?_⟩
    · rw [hlist, hqueue, ← List.append_assoc]
      exact hs.settle.once.append (List.nodup_singleton g) (by simpa using hnew)
    · rw [hlist, hqueue, ← List.append_assoc, List.mem_append, hs.settle.holds, List.mem_singleton]
      simp only [hsettles]
      constructor
      · rintro (⟨d, hd⟩ | rfl)
        · exact ⟨d, .inr hd⟩
        · exact ⟨c, .inl ⟨rfl, rfl⟩⟩
      · rintro ⟨d, ⟨rfl, -⟩ | hd⟩
        · exact .inr rfl
        · exact .inl ⟨d, hd⟩
    · rw [hengine] at hidle
      split at hidle
      next => exact nomatch hidle
      next h => exact absurd hidle h
    · rw [hqueue]; simp

/-- What a close leaves (R78, R79, R82) keeps the bindings, once the lane is in no segment. -/
theorem bound_of_closes {c : Fin 16} {g : Nat} {l : Fin 8} {ctx : Context} {cause : CloseCause} (hs : Bound s)
    (htables : TablesOk t) (h : CountsIn s l g c ctx) (hc : Closes s t c ctx l cause)
    (hl : inSegmentOf t l = none) : Bound t := by
  obtain ⟨-, ⟨hctx, hphase, r, hr, hcounting⟩, hg⟩ := h
  have hsegment (p : Phase) (hp : t.segment ctx.segment = (s.segment ctx.segment).map fun r => { r with phase := p })
      (k : Nat) : t.segment k = if k = g then some { r with phase := p } else s.segment k := by
    split
    next hk => rw [hk, ← hg, hp, hr]; rfl
    next hk => exact hc.segments k (hg ▸ hk)
  have hphases (p : Phase) (hp : t.segment ctx.segment = (s.segment ctx.segment).map fun r => { r with phase := p })
      (hfree : ∀ d, p ≠ .counting d) :
      (∀ k d, countsIn t k d ↔ k ≠ g ∧ countsIn s k d) ∧
      ∀ k d, settlesIn t k d ↔ (k = g ∧ p = .settling d) ∨ (k ≠ g ∧ settlesIn s k d) := by
    constructor
    · intro k d
      unfold countsIn
      rw [hsegment p hp]
      by_cases hk : k = g <;> simp [hk, hfree]
    · intro k d
      unfold settlesIn
      rw [hsegment p hp]
      by_cases hk : k = g <;> simp [hk]
  have hapart (k : Nat) (d : Fin 16) (hd : settlesIn s k d) : k ≠ g :=
    fun hk => not_settlesIn_of_countsIn ⟨r, hr, hcounting⟩ d (hk.trans hg.symm ▸ hd)
  have hlane (m : Fin 8) : inSegmentOf t m = if m = l then none else inSegmentOf s m := by
    split
    next hm => rw [hm]; exact hl
    next hm =>
      unfold inSegmentOf
      rw [hc.others m hm]
      split
      · exact (flagLane_fields _).2.1
      · rfl
  have hclaim (d : Fin 16) (hd : d ≠ c) : claimOf t d = claimOf s d := by unfold claimOf; rw [hc.contexts d hd]
  have hopen : claimOf s c = some (g, .opened l) := claimOf_eq_some.mpr ⟨ctx, hctx, hg, hphase⟩
  by_cases hob : ctx.observations = []
  · obtain ⟨hnone, hsettle, hseg⟩ := hc.empty hob
    have hfree : ∀ d, priorOf ctx.prior ≠ .counting d ∧ priorOf ctx.prior ≠ .settling d := by
      intro d; cases ctx.prior <;> exact ⟨Phase.noConfusion, Phase.noConfusion⟩
    obtain ⟨hcounts, hsettles⟩ := hphases _ hseg fun d => (hfree d).1
    refine bound_of_close (cause := cause) hs htables hopen hlane hclaim hcounts (.inl ⟨?_, fun k d => ?_, hsettle⟩)
    · unfold claimOf; rw [hnone]; rfl
    · rw [hsettles]
      simp only [(hfree d).2, and_false, false_or, and_iff_right_iff_imp]
      exact hapart k d
  · obtain ⟨hsome, hqueue, hengine, hseg⟩ := hc.handOff hob
    obtain ⟨hcounts, hsettles⟩ := hphases _ hseg fun d => Phase.noConfusion
    refine bound_of_close (cause := cause) hs htables hopen hlane hclaim hcounts
      (.inr ⟨claimOf_eq_some.mpr ⟨_, hsome, hg, rfl⟩, fun k d => ?_, hg ▸ hqueue, hengine⟩)
    rw [hsettles]
    constructor
    · rintro (⟨hk, hd⟩ | ⟨-, hd⟩)
      · exact .inl ⟨hk, (Phase.settling.inj hd).symm⟩
      · exact .inr hd
    · rintro (⟨hk, rfl⟩ | hd)
      · exact .inl ⟨hk, rfl⟩
      · exact .inr ⟨hapart k d hd, hd⟩

/-- A lane's context closed and the lane in no segment (R24, R78). -/
theorem closeLane_bound (hs : Bound s) (l : Fin 8) (cause : CloseCause) {m : LaneMode} (hm : currentSegment m = none)
    (hattached : m ≠ .detached) : Bound (closeLane s l cause m) := by
  rcases hs.claims.counts_or_not l with hn | ⟨g, c, ctx, hc⟩
  · unfold closeLane
    rw [hn.laneContext]
    exact plain_bound (setMode_move l m fun _ => hm.trans (notCounting_iff.mp hn).symm) hs
  · obtain ⟨hcloses, hlane, -⟩ := closeLane_spec s l g c ctx cause m hc hattached
    refine bound_of_closes hs ((closeLane_move l cause m).tables hs.tables) hc hcloses ?_
    unfold inSegmentOf
    rw [hlane]; exact hm

/-- A lane in no segment DETACHED (R26). -/
theorem laneGone_move {l : Fin 8} (h : currentSegment (s.lane l).mode = none) : Plain s (laneGone s l) := by
  have hlane : Change (fun _ => False) s
      (s.setLane l { s.lane l with mode := .detached, paused := false, overrun := false }) :=
    .setLane l _ ⟨id, id, id⟩ (fun _ => ⟨rfl, rfl⟩) fun _ => h.symm
  exact Change.noted (hlane.trans (handSignal_change l none))

/-- A lane detached (R26). -/
theorem detach_bound (hs : Bound s) (l : Fin 8) : Bound (detach s l) := by
  by_cases hm : (s.lane l).mode = .detached
  · rw [detach_of_detached hm]; exact hs
  have htables := (detach_move l (s := s)).tables hs.tables
  have hlane := (detach_spec hm (hs.claims.counts_or_not l)).1
  have hnone : inSegmentOf (detach s l) l = none := by unfold inSegmentOf; rw [hlane]; rfl
  rcases hs.claims.counts_or_not l with hn | ⟨g, c, ctx, hc⟩
  · rw [detach_notCounting hm hn] at hnone ⊢
    have hdrop : Plain s (queueDropped s l) :=
      (setQueue_move l { s.lane l with queue := [] } ⟨fun _ => ⟨Nat.zero_le _, Nat.zero_le _⟩, id, id⟩ rfl).plain
        (raiseDrop_move l _)
    have hgone : currentSegment ((queueDropped s l).lane l).mode = none := by
      rw [queueDropped_lane, if_pos rfl]; exact notCounting_iff.mp hn
    exact plain_bound (laneGone_move hgone) (plain_bound hdrop hs)
  · exact bound_of_closes hs htables hc (detach_closes hm hc) hnone

theorem detachLanes_bound (ls : List (Fin 8)) (hs : Bound s) : Bound (detachLanes ls s) := by
  induction ls generalizing s with
  | nil => exact hs
  | cons l ls ih => exact ih (detach_bound hs l)

/-! ### An open (R69) -/

/-- A FREE context opened for a segment that may be counted, by a lane in no segment. -/
theorem openContext_bound (hs : Bound s) {l : Fin 8} {g : Nat} {c : Fin 16} {r : Segment} (prior : Prior)
    (hl : NotCounting s l) (hfree : s.context c = none) (hr : s.segment g = some r) (hphase : r.phase.free) :
    Bound (openContext s l g c prior) := by
  have hcounts (k : Nat) (d : Fin 16) :
      countsIn (openContext s l g c prior) k d ↔ (k = g ∧ d = c) ∨ countsIn s k d := by
    unfold countsIn
    rw [openContext_segment]
    by_cases hk : k = g
    · subst hk
      simp [hr, hphase.1 d, eq_comm]
    · simp [hk]
  have hsettles (k : Nat) (d : Fin 16) : settlesIn (openContext s l g c prior) k d ↔ settlesIn s k d := by
    unfold settlesIn
    rw [openContext_segment]
    by_cases hk : k = g
    · subst hk
      simp [hr, hphase.2 d]
    · simp [hk]
  have hclaim (d : Fin 16) : claimOf (openContext s l g c prior) d = if d = c then some (g, .opened l) else claimOf s d := by
    unfold claimOf
    rw [openContext_context]
    split <;> rfl
  have hlane (m : Fin 8) : inSegmentOf (openContext s l g c prior) m = if m = l then some g else inSegmentOf s m := by
    unfold inSegmentOf
    rw [openContext_lane]
    split <;> rfl
  have hcfree : claimOf s c = none := by unfold claimOf; rw [hfree]; rfl
  have hlfree : inSegmentOf s l = none := notCounting_iff.mp hl
  obtain ⟨hin, hopened, hclosed, hcounting, hsettling⟩ := (claimsOk_iff s).mp hs.claims
  have hne {d : Fin 16} {x : Nat × ContextPhase} (hd : claimOf s d = some x) : d ≠ c := by
    rintro rfl
    rw [hcfree] at hd; exact nomatch hd
  refine ⟨(openContext_move l g c prior hfree).tables hs.tables, (claimsOk_iff _).mpr ?_, ?_⟩
  · simp only [hcounts, hsettles, hclaim, hlane]
    refine ⟨fun m k hm => ?_, fun d k m hd => ?_, fun d k m cause hd => ?_, fun k d hd => ?_, fun k d hd => ?_⟩
    · split at hm
      next hml =>
        obtain rfl := Option.some.inj hm
        exact ⟨c, .inl ⟨rfl, rfl⟩, by rw [if_pos rfl, hml]⟩
      next =>
        obtain ⟨d, hd, hdm⟩ := hin m k hm
        exact ⟨d, .inr hd, by rw [if_neg (hne hdm)]; exact hdm⟩
    · split at hd
      next hdc =>
        obtain ⟨rfl, hlm⟩ := Prod.mk.inj (Option.some.inj hd)
        obtain rfl := ContextPhase.opened.inj hlm
        exact ⟨.inl ⟨rfl, hdc⟩, if_pos rfl⟩
      next =>
        obtain ⟨hk, hm⟩ := hopened d k m hd
        refine ⟨.inr hk, ?_⟩
        rw [if_neg]
        · exact hm
        · rintro rfl
          rw [hlfree] at hm; exact nomatch hm
    · split at hd
      next => exact ContextPhase.noConfusion (congrArg Prod.snd (Option.some.inj hd))
      next => exact hclosed d k m cause hd
    · rcases hd with ⟨rfl, rfl⟩ | hd
      · exact ⟨l, if_pos rfl⟩
      · obtain ⟨m, hm⟩ := hcounting k d hd
        exact ⟨m, by rw [if_neg (hne hm)]; exact hm⟩
    · obtain ⟨m, cause, hm⟩ := hsettling k d hd
      exact ⟨m, cause, by rw [if_neg (hne hm)]; exact hm⟩
  · have hsettle : (openContext s l g c prior).settle = s.settle := by rw [openContext_frame]
    refine ⟨by rw [hsettle]; exact hs.settle.once, fun k => ?_, by rw [hsettle]; exact hs.settle.idle,
      by rw [hsettle]; exact hs.settle.taking⟩
    rw [hsettle]
    simpa only [hsettles] using hs.settle.holds k

/-- The segment an ENTER opens may be counted (R32). -/
theorem enterOutcome_countable {l : Fin 8} {rel g : Nat} {c : Fin 16} {prior : Prior}
    (h : enterOutcome s l rel = .opens g c prior) : ∃ r, s.segment g = some r ∧ r.phase.free := by
  have hopen (k : Nat) (p : Prior) (ho : openOrWait s k p = .opens g c prior) : k = g := by
    unfold openOrWait at ho
    split at ho
    · exact (EnterOutcome.opens.inj ho).1
    · exact EnterOutcome.noConfusion ho
  unfold enterOutcome at h
  dsimp only at h
  split at h
  · exact EnterOutcome.noConfusion h
  · split at h
    · exact EnterOutcome.noConfusion h
    next r hr =>
      split at h
      · exact EnterOutcome.noConfusion h
      · exact EnterOutcome.noConfusion h
      · exact EnterOutcome.noConfusion h
      next hp => exact ⟨r, hopen _ _ h ▸ hr, hp ▸ Phase.free_ready⟩
      next hp =>
        split at h
        · exact ⟨r, hopen _ _ h ▸ hr, hp ▸ Phase.free_settled⟩
        · exact EnterOutcome.noConfusion h

/-- The gap-mark rule (R38). -/
theorem applyGap_bound (hs : Bound s) (l : Fin 8) (gap : Bool) : Bound (applyGap s l gap) := by
  unfold applyGap
  split
  · exact closeLane_bound hs l _ rfl LaneMode.noConfusion
  · exact hs

/-- An ENTER of a lane in no segment (R31 to R33). -/
theorem evalEnter_bound (hs : Bound s) {l : Fin 8} (hl : NotCounting s l) (rel : Nat) (gap : Bool) :
    Bound (evalEnter s l rel gap) := by
  have hnone := notCounting_iff.mp hl
  unfold evalEnter
  split
  next => exact plain_bound (setMode_move l _ fun _ => hnone.symm) hs
  next g c prior h =>
    obtain ⟨r, hr, hphase⟩ := enterOutcome_countable h
    exact applyGap_bound (openContext_bound hs prior hl (enterOutcome_opens h) hr hphase) l gap
  next =>
    split
    next f _ =>
      refine plain_bound (Move.plain (pushOther_move f) (setMode_move l _ fun _ => ?_)) hs
      rw [State.lane_eq_of_lanes (pushOther_lanes s f)]
      exact hnone.symm
    next => exact hs

/-- A lane's context closed for its ENTER (R31). -/
theorem closeForEnter_bound (hs : Bound s) (l : Fin 8) :
    Bound (closeForEnter s l) ∧ NotCounting (closeForEnter s l) l := by
  unfold closeForEnter
  split
  next h =>
    refine ⟨closeLane_bound hs l _ rfl LaneMode.noConfusion, notCounting_iff.mpr ?_⟩
    rcases hs.claims.counts_or_not l with hn | ⟨g, c, ctx, hc⟩
    · rw [notCounting_iff.mp hn] at h; exact nomatch h
    · rw [(closeLane_spec s l g c ctx _ _ hc LaneMode.noConfusion).2.1]; rfl
  next h => exact ⟨hs, notCounting_iff.mpr (by simpa using h)⟩

/-- A LEAVE acts (R37). -/
theorem actLeave_bound (hs : Bound s) (l : Fin 8) : Bound (actLeave s l) := by
  unfold actLeave
  split
  next => exact closeLane_bound hs l _ rfl LaneMode.noConfusion
  next h => exact plain_bound (setMode_move l _ fun _ => (Option.not_isSome_iff_eq_none.mp h).symm) hs

/-- CLOSE_SEGMENT (R41, R80). -/
theorem closeSegment_bound (hs : Bound s) (g : Nat) : Bound (closeSegment g s).1 := by
  unfold closeSegment
  split
  next => exact hs
  next =>
    split
    next => exact hs
    next c hcounting =>
      split
      next => exact hs
      next ctx hctx =>
        split
        next => exact hs
        next owner hphase =>
          obtain ⟨hcount, d, hd⟩ := hs.claims.opened c ctx owner hctx hphase
          have hc : CountsIn s owner ctx.segment c ctx := ⟨⟨d, hd⟩, ⟨hctx, hphase, hcount⟩, rfl⟩
          have hclose : (closeContext s c .request).setMode owner .inVoid = closeLane s owner .request .inVoid := by
            unfold closeLane; rw [hc.laneContext]
          dsimp only
          rw [hclose]
          exact closeLane_bound hs owner _ rfl LaneMode.noConfusion

/-! ### The settle (R79, R100, R101) -/

/-- The freeze takes the head of the Settle Queue (R103). -/
theorem freeze_bound (hs : Bound s) : Bound (freeze s) := by
  unfold freeze
  split
  next g rest htaking hqueue =>
    split
    next => exact hs
    next c ctx hctx =>
      have hitems : Table.wf (holdItems s g ctx.observations).store.items :=
        tmap_wf (fun i it => if toHold g ctx.observations i it then { it with hold := true } else it) _ hs.tables.items
      refine bound_of_same (s := s) ⟨hs.tables.segments, hitems, hs.tables.tagIndex⟩ (fun _ => rfl)
        (fun _ => rfl) (fun _ _ => .rfl) (fun _ _ => .rfl) ?_ (fun h => nomatch h) (fun h => nomatch h) hs
      unfold settleList
      rw [htaking, hqueue]; rfl
  next => exact hs

/-- The release leaves the segment in settle SETTLED and its context FREE (R83, R122). -/
theorem release_bound (hs : Bound s) {w : Settle} {r : Segment} {c : Fin 16} {ctx : Context}
    (h : Settles s w r c ctx) : Bound (release s w r c ctx) := by
  have htables : TablesOk (released s w r c ctx) := by
    have hall := (release_move w r c ctx h).tables hs.tables
    rw [release_eq, captureQuery_frame] at hall
    exact ⟨hall.segments, hall.items, hall.tagIndex⟩
  rw [release_eq]
  refine plain_bound captureQuery_move ?_
  have hin : settlesIn s w.segment c := ⟨r, h.segment, h.settling⟩
  have hcounts (k : Nat) (d : Fin 16) : countsIn (released s w r c ctx) k d ↔ countsIn s k d := by
    unfold countsIn
    rw [released_segment]
    by_cases hk : k = w.segment
    · subst hk
      simp [h.segment, h.settling]
    · simp [hk]
  have hsettles (k : Nat) (d : Fin 16) :
      settlesIn (released s w r c ctx) k d ↔ k ≠ w.segment ∧ settlesIn s k d := by
    unfold settlesIn
    rw [released_segment]
    by_cases hk : k = w.segment <;> simp [hk]
  have hclaim (d : Fin 16) : claimOf (released s w r c ctx) d = if d = c then none else claimOf s d := by
    unfold claimOf
    rw [released_context]
    split <;> rfl
  have hlane (l : Fin 8) : inSegmentOf (released s w r c ctx) l = inSegmentOf s l := by
    unfold inSegmentOf
    rw [released_lane]
    exact (flagLane_fields _).2.1
  obtain ⟨hseg, hopened, hclosed, hcounting, hsettling⟩ := (claimsOk_iff s).mp hs.claims
  obtain ⟨l, cause, hc⟩ := hsettling _ _ hin
  have hopenNe {d : Fin 16} {k : Nat} {m : Fin 8} (hd : claimOf s d = some (k, .opened m)) : d ≠ c := by
    rintro rfl
    exact ContextPhase.noConfusion (congrArg Prod.snd (Option.some.inj (hd.symm.trans hc)))
  refine ⟨htables, (claimsOk_iff _).mpr ?_, ⟨?_, fun k => ?_, (fun hidle => nomatch hidle), fun htaking => nomatch htaking⟩⟩
  · simp only [hcounts, hsettles, hclaim, hlane]
    refine ⟨fun m k hm => ?_, fun d k m hd => ?_, fun d k m cause' hd => ?_, fun k d hd => ?_, fun k d hd => ?_⟩
    · obtain ⟨d, hd, hdm⟩ := hseg m k hm
      exact ⟨d, hd, by rw [if_neg (hopenNe hdm)]; exact hdm⟩
    · split at hd
      next => exact nomatch hd
      next => exact hopened d k m hd
    · split at hd
      next => exact nomatch hd
      next hdc =>
        have hd' := hclosed d k m cause' hd
        exact ⟨fun hk => hdc (settlesIn_unique (hk ▸ hd') hin), hd'⟩
    · obtain ⟨m, hm⟩ := hcounting k d hd
      exact ⟨m, by rw [if_neg (hopenNe hm)]; exact hm⟩
    · obtain ⟨m, cause', hm⟩ := hsettling k d hd.2
      refine ⟨m, cause', ?_⟩
      rw [if_neg]
      · exact hm
      · rintro rfl
        exact hd.1 (congrArg Prod.fst (Option.some.inj (hm.symm.trans hc)))
  · have honce := hs.settle.once
    rw [h.engine] at honce
    exact (List.nodup_cons.mp honce).2
  · have honce := hs.settle.once
    have hholds := hs.settle.holds k
    rw [h.engine] at honce hholds
    have hnot : w.segment ∉ s.settle.queue := (List.nodup_cons.mp honce).1
    change k ∈ s.settle.queue ↔ _
    simp only [hsettles, exists_and_left, ← hholds]
    constructor
    · exact fun hk => ⟨fun hw => hnot (hw ▸ hk), List.mem_cons_of_mem _ hk⟩
    · rintro ⟨hne, hk⟩
      exact (List.mem_cons.mp hk).resolve_left hne

/-- The end of the scan (R101, R122). -/
theorem execDeferredScan_bound (hs : Bound s) (h : execDeferredScan s = .next t) : Bound t := by
  obtain rfl := Host.Outcome.next.inj h
  split
  next hscan =>
    have hd : Bound (drainDeferred s) := plain_bound drainDeferred_move hs
    have hengine : (drainDeferred s).settle.engine = .scanning := by rw [drainDeferred_settle]; exact hscan
    refine bound_of_same (s := drainDeferred s) ⟨hd.tables.segments, hd.tables.items, hd.tables.tagIndex⟩ (fun _ => rfl) (fun _ => rfl)
      (fun _ _ => .rfl) (fun _ _ => .rfl) ?_ ?_ ?_ hd
    · unfold settleList
      rw [hengine]
      dsimp only
      split <;> rfl
    · intro hidle
      dsimp only at hidle ⊢
      split at hidle
      next hempty => exact List.isEmpty_iff.mp hempty
      next => exact nomatch hidle
    · intro htaking
      dsimp only at htaking ⊢
      split at htaking
      next => exact nomatch htaking
      next hempty => exact fun hnil => hempty (List.isEmpty_iff.mpr hnil)
  next => exact hs

/-! ### Resets -/

/-- Lanes in no segment, contexts FREE, and no segment COUNTING or SETTLING are bound (R21, R44, R85, R125). -/
theorem bound_of_cleared (ht : TablesOk t) (hlane : ∀ l, inSegmentOf t l = none) (hctx : ∀ c, t.context c = none)
    (hphase : ∀ g r, t.segment g = some r → r.phase.free) (hsettle : t.settle = { queue := [], engine := .idle }) :
    Bound t := by
  have hclaim (c : Fin 16) : claimOf t c = none := by unfold claimOf; rw [hctx]; rfl
  have hcounts (g : Nat) (c : Fin 16) : ¬ countsIn t g c := fun ⟨r, hr, hp⟩ => (hphase g r hr).1 c hp
  have hsettles (g : Nat) (c : Fin 16) : ¬ settlesIn t g c := fun ⟨r, hr, hp⟩ => (hphase g r hr).2 c hp
  refine ⟨ht, (claimsOk_iff t).mpr ?_, ?_, ?_, ?_, ?_⟩
  · simp [hclaim, hlane, hcounts, hsettles]
  · rw [hsettle]; exact .nil
  · intro g
    rw [hsettle]
    simp [hsettles, inSettleList]
  · intro _; rw [hsettle]
  · intro h; rw [hsettle] at h; exact nomatch h

/-- The count restart (R187). -/
theorem restartCount_bound (hs : Bound s) : Bound (restartCount s) := by
  rw [restartCount_eq]
  refine plain_bound ((drainDeferred_move.plain emptyFindings_move).plain emptyFieldOut_move) ?_
  have hframe := countCleared_frame s
  refine bound_of_cleared ?_ (fun l => ?_) (fun c => ?_) (fun g r hr => ?_) (by rw [hframe])
  · have hstore := countCleared_store s
    refine ⟨?_, ?_, ?_⟩ <;> rw [hstore]
    · exact tmap_wf (fun _ r => restartSegment r) _ hs.tables.segments
    · exact tmap_wf (fun _ it => restartItem it) _ hs.tables.items
    · exact hs.tables.tagIndex
  · have hlane : (countCleared s).lane l = (restartedLane (laneAndSignal s l)).1 := by
      rw [← lanesRestarted_lane]
      exact State.lane_eq_of_lanes (by rw [hframe]) l
    unfold inSegmentOf
    rw [hlane, restartedLane]
    split
    next hm => rw [hm]; rfl
    next => rfl
  · unfold State.context
    rw [hframe]; simp
  · rw [countCleared_segment, Option.map_eq_some_iff] at hr
    obtain ⟨q, -, rfl⟩ := hr
    unfold restartSegment
    split
    next n hp => rw [hp]; exact Phase.free_loading n
    next => exact Phase.free_ready

/-- A full reset begins (R186). -/
theorem fullReset_bound : Bound (fullReset s) where
  tables := ⟨.nil, .nil, .nil⟩
  claims := ⟨reset_claims.lane, reset_claims.opened, reset_claims.closed, reset_claims.counting, reset_claims.settling⟩
  settle := ⟨reset_settle.once, reset_settle.holds, reset_settle.idle, reset_settle.taking⟩

/-! ### Every command -/

/-- A request served by an effect that keeps the bindings. -/
theorem serveNow_bound {effect : State → State × Answer} (h : ∀ u, Bound u → Bound (effect u).1) (hs : Bound s) :
    Bound (serveNow s effect) :=
  plain_bound (setHead_move _) (h _ (plain_bound (setHead_move _) hs))

/-- Option words are in no binding. -/
theorem setOpts_bound (hs : Bound s) (o : Options) : Bound (withEdges s fun s => { s with opts := o }) :=
  bound_of_parts hs rfl rfl rfl rfl

/-- The reactions to a write (R27, R177). -/
theorem reactToWrite_bound (hs : Bound s) (old : Options) (w : OptionWord) : Bound (reactToWrite old w s) := by
  have hlanes : Plain s (lanesInOrder.foldl evalLaneThresholds s) :=
    Move.foldl id _ fun _ l _ => evalLaneThresholds_move l
  unfold reactToWrite
  split
  · exact detachLanes_bound _ hs
  · exact plain_bound hlanes hs
  · exact plain_bound hlanes hs
  · exact plain_bound resumeEngine_move hs
  · exact hs

/-- OPTION (R176). -/
theorem serveOption_bound (hs : Bound s) (op : Nat) : Bound (serveOption op s) := by
  have hoption (u : State) (hu : Bound u) (operation code : Nat) (value : BitVec 32) :
      Bound (option operation code value u).1 := by
    unfold option
    split
    next => exact hu
    next =>
      split
      next => exact hu
      next =>
        dsimp only
        split
        next =>
          unfold writeWord
          dsimp only
          split
          · exact hu
          · exact reactToWrite_bound (setOpts_bound hu _) _ _
        next => exact hu
  unfold serveOption
  split
  next =>
    split
    next => exact serveNow_bound (fun u hu => hoption u hu _ _ _) hs
    next => exact hs
  next => exact hs

/-- The Field Link goes DOWN (R162, R163). -/
theorem linkDown_field_bound (hs : Bound s) (receiving : Bool) : Bound (linkDown .field receiving s) := by
  have hlink (u : State) (hu : Bound u) (signal up : Bool) (tx : Option FieldTx) :
      Bound { u with field := { u.field with signal := signal, up := up, tx := tx } } :=
    bound_of_parts hu rfl rfl rfl rfl
  unfold linkDown
  dsimp only
  split
  · exact hlink s hs _ _ _
  · split
    · have hdiscard : Bound (if receiving then discardField s else s) := by
        split
        · exact plain_bound discardField_move hs
        · exact hs
      exact detachLanes_bound _ (hlink _ hdiscard false false none)
    · exact hs

/-- The commands that own the bindings keep them. -/
theorem exec_bound_of_owns {i : Instr} (hi : Owns i .claims) (ht : exec i s = .next t) (hs : Bound s) : Bound t := by
  cases hi with
  | optionWriteDetaches => obtain rfl := Host.Outcome.next.inj ht; exact serveOption_bound hs 1
  | optionSetDetaches => obtain rfl := Host.Outcome.next.inj ht; exact serveOption_bound hs 2
  | optionClearDetaches => obtain rfl := Host.Outcome.next.inj ht; exact serveOption_bound hs 3
  | linkDownDetaches => obtain rfl := Host.Outcome.next.inj ht; exact linkDown_field_bound hs _
  | settleFreeze => obtain rfl := Host.Outcome.next.inj ht; exact freeze_bound hs
  | deferredScan => exact execDeferredScan_bound hs ht
  | closeSegment =>
    obtain rfl := Host.Outcome.next.inj ht
    split
    · exact serveNow_bound (fun u hu => closeSegment_bound hu _) hs
    · exact hs
  | restartCount =>
    obtain rfl := Host.Outcome.next.inj ht
    split
    · exact restartCount_bound (plain_bound (setHead_move _) hs)
    · exact hs
  | laneDown =>
    obtain rfl := Host.Outcome.next.inj ht
    unfold takeLaneFrame
    split
    · split
      · exact detach_bound hs _
      · exact plain_bound discardField_move hs
    · exact hs
  | drainEnter =>
    obtain rfl := Host.Outcome.next.inj ht
    split
    next l _ _ _ =>
      obtain ⟨hclosed, hl⟩ := closeForEnter_bound (plain_bound (takeHead_move l) hs) l
      exact evalEnter_bound hclosed hl _ _
    next => exact hs
  | drainSight =>
    obtain rfl := Host.Outcome.next.inj ht
    split
    next l _ _ _ _ _ _ =>
      exact applyGap_bound (plain_bound ((takeHead_move l).plain (actSight_move l _ _ _ _)) hs) l _
    next => exact hs
  | drainLeave =>
    obtain rfl := Host.Outcome.next.inj ht
    split
    next l _ _ => exact applyGap_bound (actLeave_bound (plain_bound (takeHead_move l) hs) l) l _
    next => exact hs
  | reevaluatePendingEnter =>
    obtain rfl := Host.Outcome.next.inj ht
    split
    next l _ =>
      split
      next rel gap flag hm =>
        refine evalEnter_bound (plain_bound (servedLane_move l) hs) (fun g d hd => ?_) _ _
        exact LaneMode.noConfusion (hm.symm.trans hd)
      next => exact hs
    next => exact hs
  | dwellTimeout =>
    obtain rfl := Host.Outcome.next.inj ht
    split
    · exact closeLane_bound hs _ _ rfl LaneMode.noConfusion
    · exact hs
  | settleRelease =>
    obtain rfl := Host.Outcome.next.inj ht
    split
    next h =>
      split
      · exact release_bound hs (settles_of_inSettle h)
      · exact hs
    next => exact hs

/-- The full resets leave a bound state. -/
theorem exec_bound_of_fullReset {i : Instr} (hi : IsFullReset i) (ht : exec i s = .next t) (hs : Bound s) : Bound t := by
  have hfull := fullReset_bound (s := s)
  rcases hi with rfl | rfl | rfl
  · obtain rfl := Host.Outcome.next.inj ht
    split
    next sl _ _ =>
      have hslot : Change (fun _ => False) (fullReset s) ((fullReset s).setSlots [resetSlot sl]) :=
        .setRequests _ (fun _ => (by decide : 1 ≤ 8)) id
      exact plain_bound (hslot.quiet rfl) hfull
    next => exact hs
  · obtain rfl := Host.Outcome.next.inj ht
    split
    · exact hfull
    · exact plain_bound readLinks_move hfull
  · obtain rfl := Host.Outcome.next.inj ht
    have hpin : Change (· = .resetPin) (fullReset s) { fullReset s with resetPin := true } :=
      .setConfig _ (fullReset s).clock true (fun _ => rfl) (fun _ => rfl) (fun _ => rfl) (absurd rfl)
    exact (hpin.quiet rfl).bound Part.noConfusion hfull

/-- Every command keeps the bindings. -/
theorem exec_bound {i : Instr} (ht : exec i s = .next t) (hs : Bound s) : Bound t := by
  by_cases hreset : IsFullReset i
  · exact exec_bound_of_fullReset hreset ht hs
  by_cases hown : Owns i .claims
  · exact exec_bound_of_owns hown ht hs
  · obtain ⟨hkeeps, hframe⟩ := frame_of_exec ht hreset
    exact (hframe.claims hown).bound (hkeeps.tables hs.tables) hs

end

/-! ### The statements -/

/-- Settles O12: a command that owns none of the bindings leaves them, and each of the others is one of the sorts above. -/
theorem stepKeepsClaimsBound : Obligations.StepKeepsClaimsBound := by
  rintro s t ⟨htables, hclaims, hsettle⟩ h
  have hs : Bound s := ⟨htables, hclaims, hsettle⟩
  suffices hb : Bound t from ⟨hb.tables, hb.claims, hb.settle⟩
  unfold step at h
  split at h
  · obtain rfl := Host.Outcome.next.inj h
    exact hs
  · exact exec_bound h (bound_of_parts hs rfl rfl rfl rfl)

/-- Settles O13: the SETTLING segments own different contexts, and there are 16. -/
theorem settleQueueNeverOverflows : Obligations.SettleQueueNeverOverflows := by
  intro s hclaims hsettle
  have hown : ∀ g ∈ settleList s, ∃ c, settlesIn s g c := fun g hg => (hsettle.holds g).mp hg
  choose c hc using hown
  have hinj {g h : Nat} (hg : g ∈ settleList s) (hh : h ∈ settleList s) (heq : c g hg = c h hh) : g = h := by
    obtain ⟨ctx, _, _, hctx, rfl, _⟩ := hclaims.settling g _ (hc g hg)
    obtain ⟨ctx', _, _, hctx', rfl, _⟩ := hclaims.settling h _ (hc h hh)
    rw [heq, hctx'] at hctx
    exact congrArg Context.segment (Option.some.inj hctx).symm
  have hnodup : ((settleList s).pmap c fun _ h => h).Nodup :=
    List.Nodup.pmap (fun g hg h hh heq => hinj hg hh heq) hsettle.once
  have hlen := hnodup.length_le_card
  rwa [List.length_pmap, Fintype.card_fin] at hlen

end Sys2Proof.Machine
end

section
/-! The requests that set a window, the clock and the knots, that ask for an item or a segment, or that are not known; the
arrival of a request; and the full resets. -/

namespace Sys2Proof.Machine

section
variable {s : State} {before after : List Slot} {sl : Slot}

/-! ### What the commands serve (R173) -/

theorem Waiting.exec_unknownRequest {code : Nat} {args : List Byte} (hw : Waiting s before sl after (.unknown code args)) :
    exec .unknownRequest s = .next (serveNow s fun s => (s, { status := .unknownRequest })) := by
  change execUnknownRequest s = _
  simp only [execUnknownRequest, hw.next]

theorem Waiting.exec_setWindow {lane base limit : Nat} (hw : Waiting s before sl after (.setWindow lane base limit)) :
    exec .setWindow s = .next (serveNow s (setWindow lane base limit)) := by
  change execSetWindow s = _
  simp only [execSetWindow, hw.next]

theorem Waiting.exec_setClock {value : Time} (hw : Waiting s before sl after (.setClock value)) :
    exec .setClock s = .next (serveNow s (setClock value)) := by
  change execSetClock s = _
  simp only [execSetClock, hw.next]

theorem Waiting.exec_loadWeights {knots : Vector (BitVec 16) 17} (hw : Waiting s before sl after (.loadWeights knots)) :
    exec .loadWeights s = .next (serveNow s (loadWeights knots)) := by
  change execLoadWeights s = _
  simp only [execLoadWeights, hw.next]

theorem Waiting.exec_queryItem_held {selector i : Nat} {value : BitVec 64}
    (hw : Waiting s before sl after (.queryItem selector value)) (h : queryItemHeld selector value s = some i) :
    exec .queryItem s = .next (beginService s (.holdWait i)) := by
  change execQueryItem s = _
  simp only [execQueryItem, hw.next, h]

theorem Waiting.exec_queryItem_answered {selector : Nat} {value : BitVec 64}
    (hw : Waiting s before sl after (.queryItem selector value)) (h : queryItemHeld selector value s = none) :
    exec .queryItem s = .next (serveNow s (queryItemAnswer selector value)) := by
  change execQueryItem s = _
  simp only [execQueryItem, hw.next, h]

/-- The request in service and its work (R173). -/
theorem InWork.inService {req : Request} {w : Work} (hw : InWork s before sl after req w) :
    inService s = some (req, w) := by
  have hhead : headSlot s = some sl := by
    unfold headSlot
    rw [hw.slots]
    exact find_unanswered before after sl (fun x hx => answered_not_unanswered x (hw.older x hx))
      (by simp [unanswered, hw.work])
  unfold Machine.inService
  rw [hhead]
  dsimp only
  rw [hw.work]
  dsimp only
  rw [hw.request]

/-- The reply to the request in service, on a state with the same Request Queue (R173). -/
theorem InWork.answers {req : Request} {w : Work} (hw : InWork s before sl after req w) {u : State} (a : Answer)
    (hu : u.requests = s.requests) :
    Answers s (answerHead u a) before sl after (requestCode req) a.status a.segState a.body ∧
      answerHead u a = { u with requests := (answerHead u a).requests } := by
  have hun : unanswered sl = true := by simp [unanswered, hw.work]
  refine ⟨?_, rfl⟩
  unfold Answers answerHead setHead State.setSlots
  dsimp only
  rw [hu, hw.slots, changeFirst_unanswered _ before after sl (fun x hx => answered_not_unanswered x (hw.older x hx)) hun,
    replyTo, hw.request]

/-- The request takes up its work (R173). -/
theorem Waiting.begins {req : Request} (hw : Waiting s before sl after req) (w : Work) :
    Begins s (beginService s w) before sl after w ∧ beginService s w = { s with requests := (beginService s w).requests } := by
  rw [hw.begin]
  exact ⟨rfl, rfl⟩

/-! ### Segments that are counted or settled -/

theorem countingOrSettling_iff : countingOrSettling s = true ↔ ∃ e ∈ s.store.segments, e.2.busy := by
  unfold countingOrSettling Segment.busy
  rw [List.any_eq_true]
  refine exists_congr fun e => and_congr_right fun _ => ?_
  cases e.2.phase <;> simp

theorem not_countingOrSettling (h : ∀ e ∈ s.store.segments, ¬ e.2.busy) : countingOrSettling s = false := by
  rw [Bool.eq_false_iff, ne_eq, countingOrSettling_iff]
  exact fun ⟨e, he, hb⟩ => h e he hb

end

/-! ### The statements -/

/-- Settles O20. -/
theorem unknownRequestIsAnswered : Obligations.UnknownRequestIsAnswered := by
  intro s before after sl code args hw
  obtain ⟨hreply, hframe⟩ := hw.only (fun s => (s, { status := .unknownRequest })) _ rfl
  exact ⟨_, hw.exec_unknownRequest, hreply, hframe⟩

/-- Settles O27. -/
theorem loadWeightsReplacesAllKnotsUnlessCounting : Obligations.LoadWeightsReplacesAllKnotsUnlessCounting := by
  intro s before after sl knots hw
  refine ⟨fun hbusy => ?_, fun hfree => ?_⟩
  · have he : loadWeights knots (served s before sl after) = (served s before sl after, _) :=
      if_pos (countingOrSettling_iff.mpr hbusy)
    obtain ⟨hreply, hframe⟩ := hw.only _ _ he
    exact ⟨_, hw.exec_loadWeights, hreply, hframe⟩
  · have he : loadWeights knots (served s before sl after) = _ :=
      if_neg (Bool.eq_false_iff.mp (not_countingOrSettling hfree))
    obtain ⟨hreply, hframe⟩ := hw.answers he rfl
    exact ⟨_, hw.exec_loadWeights, hreply, hframe⟩

/-- Settles O26: edges are noted on the state being served, which differs in the Request Queue alone. -/
theorem setClockSetsTheClockUnlessCounting : Obligations.SetClockSetsTheClockUnlessCounting := by
  intro s before after sl value hw
  refine ⟨fun hbusy => ?_, fun hfree => ?_⟩
  · have he : setClock value (served s before sl after) = (served s before sl after, _) :=
      if_pos (countingOrSettling_iff.mpr hbusy)
    obtain ⟨hreply, hframe⟩ := hw.only _ _ he
    exact ⟨_, hw.exec_setClock, hreply, hframe⟩
  · have he : setClock value (served s before sl after) = _ :=
      if_neg (Bool.eq_false_iff.mp (not_countingOrSettling hfree))
    obtain ⟨hreply, hframe⟩ := hw.answers he rfl
    refine ⟨_, hw.exec_setClock, hreply, ?_, ?_, ?_⟩ <;> rw [hframe] <;> rfl

/-- Settles O25: the branches of `setWindow`. -/
theorem setWindowSetsAFreeLanesWindow : Obligations.SetWindowSetsAFreeLanesWindow := by
  intro s before after sl lane base limit hw
  refine ⟨fun hbad => ?_, fun l hl hbase hlimit => ⟨fun hbusy => ?_, fun hfree => ?_⟩⟩
  · have he : setWindow lane base limit (served s before sl after) = (served s before sl after, _) := dif_neg (by omega)
    obtain ⟨hreply, hframe⟩ := hw.only _ _ he
    exact ⟨_, hw.exec_setWindow, hreply, hframe⟩
  all_goals
    have hfields : lane < 8 ∧ base ≤ limit ∧ limit ≤ 2048 := ⟨hl ▸ l.isLt, hbase, hlimit⟩
    obtain rfl : l = ⟨lane, hfields.1⟩ := Fin.ext hl
  · have hmode : ((currentSegment (s.lane ⟨lane, hfields.1⟩).mode).isSome || isWaiting (s.lane ⟨lane, hfields.1⟩).mode) = true := by
      rcases hbusy with ⟨g, d, hm⟩ | ⟨r, g, f, hm⟩ <;> rw [hm] <;> rfl
    have he : setWindow lane base limit (served s before sl after) = (served s before sl after, { status := .busy }) := by
      rw [setWindow, dif_pos hfields]; exact if_pos hmode
    obtain ⟨hreply, hframe⟩ := hw.only _ _ he
    exact ⟨_, hw.exec_setWindow, hreply, hframe⟩
  · have hmode : ((currentSegment (s.lane ⟨lane, hfields.1⟩).mode).isSome || isWaiting (s.lane ⟨lane, hfields.1⟩).mode) ≠ true := by
      rcases hfree with hm | hm | hm <;> rw [hm] <;> decide
    have he : setWindow lane base limit (served s before sl after) = _ := (dif_pos hfields).trans (if_neg hmode)
    obtain ⟨hreply, hframe⟩ := hw.answers he rfl
    refine ⟨_, hw.exec_setWindow, hreply, ?_, fun m hm => ?_, ?_, ?_⟩
    · rw [hframe]
      exact (State.setLane_lane ..).trans (if_pos rfl)
    · rw [hframe]
      exact (State.setLane_lane ..).trans (if_neg hm)
    · rw [hframe]; rfl
    · rw [hframe]; rfl

/-- A well-formed request passes the port's checks (R161). -/
theorem requestFieldsOk_of_wellFormed {req : Request} (h : req.wellFormed = true) : requestFieldsOk req = true := by
  cases req with
  | loadItems g offset records =>
    simp only [Request.wellFormed, Bool.and_eq_true] at h
    exact h.1.2
  | unknown code args =>
    simp only [Request.wellFormed, Bool.and_eq_true] at h
    simp only [requestFieldsOk, Bool.and_eq_true]
    exact ⟨h.1.2, h.2⟩
  | _ => rfl

/-- Settles O29: the two branches of `joinRequests`; a well-formed request passes the port's checks. -/
theorem requestJoinsAFreeSlot : Obligations.RequestJoinsAFreeSlot := by
  intro s tag req hwf hr
  have hok : requestFieldsOk req = true := requestFieldsOk_of_wellFormed hwf
  have hexec : exec (.request tag req) s = .next (joinRequests tag req s) := by
    change execRequest tag req s = _
    rw [execRequest, hok, takeTrunkFrame_of_receives hr]
  refine ⟨fun hroom => ?_, fun hfull => ?_⟩
  · rw [hexec, joinRequests, if_pos (by exact hroom)]; rfl
  · rw [hexec, joinRequests, if_neg (by exact Nat.not_lt.mpr hfull)]; rfl

/-! ### QUERY_ITEM (R18) -/

section
variable {s : State} {selector : Nat} {value : BitVec 64}

theorem queryItemBad_iff : queryItemBad selector value = true ↔ 1 < selector ∨ (selector = 1 ∧ 65535 < value.toNat) := by
  simp [queryItemBad]

/-- A QUERY_ITEM that names its item well (R18). -/
theorem queryTarget_eq {index : Option Nat} (h : selector = 0 ∧ index = s.lookup value ∨
      selector = 1 ∧ value.toNat ≤ 65535 ∧ index = some value.toNat) :
    queryItemBad selector value = false ∧
      queryTarget s selector value = index.bind fun i => (s.item i).map fun it => (i, it) := by
  rcases h with ⟨rfl, rfl⟩ | ⟨rfl, hle, rfl⟩
  · refine ⟨by simp [queryItemBad], ?_⟩
    unfold queryTarget
    cases s.lookup value <;> rfl
  · exact ⟨by simp [queryItemBad]; omega, rfl⟩

/-- What a QUERY_ITEM finds, held or not, decides whether it waits (R18, R20). -/
theorem queryItemHeld_eq (hbad : queryItemBad selector value = false) {x : Option (Nat × Item)}
    (h : queryTarget s selector value = x) :
    queryItemHeld selector value s = x.bind fun e => if e.2.hold then some e.1 else none := by
  unfold queryItemHeld
  rw [hbad, h]
  cases x <;> rfl

/-- The answer of a QUERY_ITEM that names no written item (R18). -/
theorem queryItemAnswer_none (hbad : queryItemBad selector value = false) (h : queryTarget s selector value = none) :
    queryItemAnswer selector value s = (s, { status := .notFound }) := by
  unfold queryItemAnswer
  rw [hbad, h]; rfl

/-- The answer of a QUERY_ITEM that does not wait (R18). -/
theorem queryItemAnswer_some (hbad : queryItemBad selector value = false) {i : Nat} {it : Item}
    (h : queryTarget s selector value = some (i, it)) :
    queryItemAnswer selector value s = (s, { status := .ok, body := .item i it }) := by
  unfold queryItemAnswer
  rw [hbad, h]; rfl

end

/-- Settles O37: what the request names decides between the answers and the wait. -/
theorem queryItemAnswersOrWaitsForTheHold : Obligations.QueryItemAnswersOrWaitsForTheHold := by
  intro s before after sl selector value
  refine ⟨fun hw => ⟨fun hbad => ?_, fun index hindex => ?_⟩, fun i it hw => ?_⟩
  · have hb : queryItemBad selector value = true := queryItemBad_iff.mpr hbad
    exact ⟨_, hw.exec_queryItem_answered (if_pos hb), hw.only _ { status := .badArgument } (if_pos hb)⟩
  · obtain ⟨hbad, htarget⟩ := queryTarget_eq hindex
    refine ⟨fun hnone => ?_, fun i it hi hit => ?_⟩
    · have hx : queryTarget s selector value = none := by
        rw [htarget]
        cases index with
        | none => rfl
        | some i => simp [hnone i rfl]
      exact ⟨_, hw.exec_queryItem_answered (queryItemHeld_eq hbad hx),
        hw.only _ { status := .notFound } (queryItemAnswer_none (s := served s before sl after) hbad hx)⟩
    · have hx : queryTarget s selector value = some (i, it) := by rw [htarget, hi, Option.bind_some, hit]; rfl
      refine ⟨fun hfree => ?_, fun hheld => ?_⟩
      · have hnot : queryItemHeld selector value s = none := by rw [queryItemHeld_eq hbad hx]; simp [hfree]
        exact ⟨_, hw.exec_queryItem_answered hnot,
          hw.only _ { status := .ok, body := .item i it } (queryItemAnswer_some (s := served s before sl after) hbad hx)⟩
      · have hwait : queryItemHeld selector value s = some i := by rw [queryItemHeld_eq hbad hx]; simp [hheld]
        exact ⟨_, hw.exec_queryItem_held hwait, hw.begins _⟩
  · obtain ⟨hreply, hframe⟩ := hw.answers (u := s) { status := .ok, body := .item i it } rfl
    refine ⟨_, ?_, hreply, hframe⟩
    change execQueryItemHoldCleared s = _
    simp only [execQueryItemHoldCleared, hw.inService]

/-- Settles O31: each full reset is `fullReset` with what its command adds. -/
theorem fullResetsLeaveTheResetState : Obligations.FullResetsLeaveTheResetState := by
  refine ⟨fun s before after sl hw => ?_, fun s before after sl hw => ?_, rfl, fun s hpin => ?_, fun s => rfl,
    fun s hpin => ?_⟩
  · have hhead : headSlot s = some sl := by
      unfold headSlot
      rw [hw.slots]
      exact find_unanswered before after sl (fun x hx => answered_not_unanswered x (hw.older x hx))
        (by simp [unanswered, hw.pending])
    change execReset s = _
    simp only [execReset, hw.next, hhead]
    rfl
  · obtain ⟨hreply, hframe⟩ := hw.answers (u := readLinks s) { status := .ok, body := .resetIdentity } rfl
    refine ⟨_, ?_, hreply, hframe⟩
    change execResetComplete s = _
    simp only [execResetComplete, hw.inService]
  · change execPowerOn s = _
    rw [execPowerOn, hpin]; simp only [Bool.false_eq_true, if_false, readLinks, fullReset, hpin]; rfl
  · change execResetInputRelease s = _
    rw [execResetInputRelease, if_pos hpin]; rfl

end Sys2Proof.Machine
end

section
/-! The Shelf List Store's requests (R9 to R17): what they write into the three tables, and the statements about them. -/

namespace Sys2Proof.Machine

section
variable {s : State} {before after : List Slot} {sl : Slot}

/-! ### What the commands serve -/

theorem Waiting.exec_loadBegin {g count presence twin : Nat}
    (hw : Waiting s before sl after (.loadBegin g count presence twin)) :
    exec .loadBegin s = .next (serveNow s (loadBegin g count presence twin)) := by
  change execLoadBegin s = _
  simp only [execLoadBegin, hw.next]

theorem Waiting.exec_loadItems {g offset : Nat} {records : List WireItem}
    (hw : Waiting s before sl after (.loadItems g offset records)) :
    exec .loadItems s = .next (serveNow s (loadItems g offset records)) := by
  change execLoadItems s = _
  simp only [execLoadItems, hw.next]

theorem Waiting.exec_loadEnd_refused {g : Nat} {a : Answer} (hw : Waiting s before sl after (.loadEnd g))
    (h : loadEndRefusal s g = some a) : exec .loadEnd s = .next (serveNow s fun s => (s, a)) := by
  change execLoadEnd s = _
  simp only [execLoadEnd, hw.next, h]

theorem Waiting.exec_loadEnd_taken {g : Nat} (hw : Waiting s before sl after (.loadEnd g))
    (h : loadEndRefusal s g = none) : exec .loadEnd s = .next (beginService s .duplicateCheck) := by
  change execLoadEnd s = _
  simp only [execLoadEnd, hw.next, h]

theorem Waiting.exec_loadAbort {g : Nat} (hw : Waiting s before sl after (.loadAbort g)) :
    exec .loadAbort s = .next (serveNow s (loadAbort g)) := by
  change execLoadAbort s = _
  simp only [execLoadAbort, hw.next]

theorem Waiting.exec_unload {g : Nat} (hw : Waiting s before sl after (.unload g)) :
    exec .unload s = .next (serveNow s (unload g)) := by
  change execUnload s = _
  simp only [execUnload, hw.next]

theorem Waiting.exec_recount {g : Nat} (hw : Waiting s before sl after (.recount g)) :
    exec .recount s = .next (serveNow s (recount g)) := by
  change execRecount s = _
  simp only [execRecount, hw.next]

theorem Waiting.exec_querySegment {g : Nat} (hw : Waiting s before sl after (.querySegment g)) :
    exec .querySegment s = .next (serveNow s (querySegment g)) := by
  change execQuerySegment s = _
  simp only [execQuerySegment, hw.next]

/-- The byte a reply carries is that of the segment's record (R8). -/
theorem stateByte_congr {u : State} {g : Nat} (h : u.segment g = s.segment g) : stateByte u g = stateByte s g := by
  unfold stateByte; rw [h]

/-- A Shelf List request with an effect is answered with its segment's state after it (R8). -/
theorem Waiting.answersSegment {req : Request} (hw : Waiting s before sl after req) {e : State → State × Answer}
    {u : State} {g : Nat} {st : Status} {body : ReplyBody} (hg : g < 2048)
    (he : e (served s before sl after) = segmentAnswer g u st body)
    (hu : u.requests = (served s before sl after).requests) :
    Answers s (serveNow s e) before sl after (requestCode req) st (stateByte (serveNow s e) g) body ∧
      serveNow s e = { u with requests := (serveNow s e).requests } := by
  obtain ⟨hreply, hframe⟩ := hw.answers he hu
  refine ⟨?_, hframe⟩
  have hbyte : stateByte (serveNow s e) g = segmentStateByte u g := by
    rw [segmentStateByte_eq u g hg]
    exact stateByte_congr (by rw [hframe]; rfl)
  rw [hbyte]
  exact hreply

/-! ### RECOUNT (R16) -/

theorem recount_badArgument {g : Nat} (hg : 2048 ≤ g) : recount g s = segmentAnswer g s .badArgument := if_pos hg

theorem recount_wrongState {g : Nat} (hg : g < 2048)
    (h : ∀ r, s.segment g = some r → r.phase ≠ .ready ∧ r.phase ≠ .settled) :
    recount g s = segmentAnswer g s .wrongState := by
  unfold recount
  rw [if_neg (by exact Nat.not_le.mpr hg)]
  split
  next => rfl
  next r hr =>
    split
    next hp => exact absurd hp (h r hr).1
    next hp => exact absurd hp (h r hr).2
    next => rfl

theorem recount_ready {g : Nat} {r : Segment} (hg : g < 2048) (hr : s.segment g = some r) (hp : r.phase = .ready) :
    recount g s = segmentAnswer g s .ok := by
  unfold recount
  rw [if_neg (by exact Nat.not_le.mpr hg), hr]
  dsimp only
  rw [hp]

theorem recount_settled {g : Nat} {r : Segment} (hg : g < 2048) (hr : s.segment g = some r) (hp : r.phase = .settled) :
    recount g s = segmentAnswer g (s.setSegment g { r with phase := .ready }) .ok := by
  unfold recount
  rw [if_neg (by exact Nat.not_le.mpr hg), hr]
  dsimp only
  rw [hp]

theorem querySegment_ok {g : Nat} (hg : g < 2048) :
    querySegment g s = segmentAnswer g s .ok (.segment (s.segment g)) := if_neg (Nat.not_le.mpr hg)

end

/-- Settles O36. -/
theorem recountAndQuerySegment : Obligations.RecountAndQuerySegment := by
  intro s before after sl g
  refine ⟨fun hw => ⟨fun hg => ?_, fun hg hphase => ?_, fun r hg hr => ⟨fun hp => ?_, fun hp => ?_⟩⟩,
    fun hw => ⟨fun hg => ?_, fun hg => ?_⟩⟩
  · exact ⟨_, hw.exec_recount, hw.refuses _ g .badArgument .none (recount_badArgument hg)⟩
  · exact ⟨_, hw.exec_recount, hw.refuses _ g .wrongState .none (recount_wrongState hg hphase)⟩
  · refine ⟨_, hw.exec_recount, ?_⟩
    rw [← segmentStateByte_eq s g hg]
    exact hw.only _ _ (recount_ready hg hr hp)
  · obtain ⟨hreply, hframe⟩ := hw.answersSegment hg (recount_settled (s := served s before sl after) hg hr hp) rfl
    refine ⟨_, hw.exec_recount, hreply, ?_, fun h hne => ?_, ?_, ?_⟩ <;> rw [hframe]
    · exact (State.setSegment_segment s g g _).trans (if_pos rfl)
    · exact (State.setSegment_segment s g h _).trans (if_neg hne)
    · rfl
    · rfl
  · exact ⟨_, hw.exec_querySegment, hw.refuses _ g .badArgument .none (if_pos hg)⟩
  · refine ⟨_, hw.exec_querySegment, ?_⟩
    rw [← segmentStateByte_eq s g hg]
    exact hw.only _ _ (querySegment_ok hg)

/-! ### LOAD_BEGIN (R9, R10) -/

section
variable {s : State} {g count presence twin : Nat}

theorem loadBeginBad_iff : loadBeginBad g count presence twin = true ↔
    2048 ≤ g ∨ 511 < count ∨ 1 < presence ∨ (presence = 1 ∧ (2048 ≤ twin ∨ twin = g)) := by
  simp only [loadBeginBad, Config.segments, Bool.or_eq_true, Bool.and_eq_true, decide_eq_true_eq]
  tauto

theorem loadBegin_wrongState (hbad : loadBeginBad g count presence twin = false) (h : s.segment g ≠ none) :
    loadBegin g count presence twin s = segmentAnswer g s .wrongState := by
  obtain ⟨r, hr⟩ := Option.ne_none_iff_exists'.mp h
  unfold loadBegin
  rw [hbad, hr]; rfl

theorem loadBegin_noSpace (hbad : loadBeginBad g count presence twin = false) (h : s.segment g = none)
    (hfit : firstFit s.store.segments (loadCount count) = none) :
    loadBegin g count presence twin s = segmentAnswer g s .noSpace (.largestFree s.store.largestFree) := by
  unfold loadBegin
  rw [hbad, h]
  dsimp only
  rw [hfit]; rfl

theorem loadBegin_taken (hbad : loadBeginBad g count presence twin = false) (h : s.segment g = none) {start : Nat}
    (hfit : firstFit s.store.segments (loadCount count) = some start) :
    loadBegin g count presence twin s =
      segmentAnswer g (begun s g (beginRecord count presence twin start)) .ok (.firstItem start) := by
  unfold loadBegin
  rw [hbad, h]
  dsimp only
  rw [hfit]; rfl

end

/-- Settles O32: first fit finds the lowest free stretch, and fails when there is none. -/
theorem loadBeginTakesTheLowestStretch : Obligations.LoadBeginTakesTheLowestStretch := by
  intro s before after sl g count presence twin htables hruns hw
  have hgood {h : ¬ (2048 ≤ g ∨ 511 < count ∨ 1 < presence ∨ (presence = 1 ∧ (2048 ≤ twin ∨ twin = g)))} :
      loadBeginBad g count presence twin = false := Bool.eq_false_iff.mpr fun hb => h (loadBeginBad_iff.mp hb)
  refine ⟨fun hbad => ?_, fun hbad hg => ?_, fun hbad hg hnone => ?_, fun start hbad hg hfree hlow => ?_⟩
  · exact ⟨_, hw.exec_loadBegin, hw.refuses _ g .badArgument .none (if_pos (loadBeginBad_iff.mpr hbad))⟩
  · exact ⟨_, hw.exec_loadBegin, hw.refuses _ g .wrongState .none (loadBegin_wrongState (hgood (h := hbad)) hg)⟩
  · refine ⟨_, hw.exec_loadBegin, hw.refuses _ g .noSpace (.largestFree s.store.largestFree) ?_⟩
    exact loadBegin_noSpace (s := served s before sl after) (hgood (h := hbad)) hg (hruns.firstFit_none htables hnone)
  · have hpos : 1 ≤ loadCount count := by
      unfold loadCount Config.itemsPerSegment
      split <;> omega
    have hfit := hruns.firstFit_lowest htables hpos hfree hlow
    obtain ⟨hreply, hframe⟩ := hw.answersSegment (by omega)
      (loadBegin_taken (s := served s before sl after) (hgood (h := hbad)) hg hfit) rfl
    refine ⟨_, hw.exec_loadBegin, hreply, ?_, fun h hne => ?_, ?_, ?_, ?_, ?_⟩ <;> rw [hframe]
    · exact (State.setSegment_segment s g g _).trans (if_pos rfl)
    · exact (State.setSegment_segment s g h _).trans (if_neg hne)
    · have hsum := ((tput_perm s.store.segments g (beginRecord count presence twin start) hg).map
        fun e => e.2.itemCount).sum_eq
      rw [List.map_cons, List.sum_cons] at hsum
      have hroom := hruns.freeAt_le htables hfree
      have hnow := hruns.freeCount
      change countFree (tput s.store.segments g (beginRecord count presence twin start)) + loadCount count = _
      rw [countFree_eq, hsum]
      change 65536 - (loadCount count + _) + loadCount count = _
      change loadCount count + _ ≤ _ at hroom
      omega
    · rfl
    · rfl
    · rfl

/-! ### LOAD_ITEMS (R11) -/

/-- The circulation statuses and their codes (9.7.5). -/
theorem circOfCode_eq_some (n : Nat) (st : CircStatus) : circOfCode n = some st ↔ circCode st = n := by
  constructor
  · intro h
    match n with
    | 0 | 1 | 2 | 3 | 4 | 5 => cases st <;> simp_all [circOfCode, circCode]
    | n + 6 => exact absurd h (by simp [circOfCode])
  · rintro rfl
    cases st <;> rfl

theorem circOfCode_isNone (n : Nat) : (circOfCode n).isNone = true ↔ 5 < n := by
  match n with
  | 0 | 1 | 2 | 3 | 4 | 5 => decide
  | n + 6 => simp [circOfCode]

/-- The rank that record j of a list must not fall below, after the rank given (R11). -/
def rankAhead (previous : Option Rank) (records : List WireItem) (j : Nat) : Option Rank :=
  if j = 0 then previous else (records[j - 1]?).map WireItem.rank

/-- Record j of a list falls below the rank ahead of it (R11). -/
def Falls (previous : Option Rank) (records : List WireItem) (j : Nat) : Prop :=
  ∃ x q, records[j]? = some x ∧ rankAhead previous records j = some q ∧ x.rank < q

theorem falls_zero (previous : Option Rank) (r : WireItem) (rest : List WireItem) :
    Falls previous (r :: rest) 0 ↔ ∃ q, previous = some q ∧ r.rank < q := by
  simp [Falls, rankAhead]

theorem falls_succ (previous : Option Rank) (r : WireItem) (rest : List WireItem) (j : Nat) :
    Falls previous (r :: rest) (j + 1) ↔ Falls (some r.rank) rest j := by
  cases j with
  | zero => simp [Falls, rankAhead]
  | succ j => simp [Falls, rankAhead]

/-- The list is passed over while no record falls. -/
theorem firstDrop_cons (previous : Option Rank) (offset : Nat) (r : WireItem) (rest : List WireItem)
    (h : ¬ Falls previous (r :: rest) 0) :
    firstDrop previous offset (r :: rest) = firstDrop (some r.rank) (offset + 1) rest := by
  rw [falls_zero] at h
  cases previous with
  | none => rfl
  | some q => exact if_neg fun hlt => h ⟨q, rfl, hlt⟩

theorem firstDrop_none (previous : Option Rank) (offset : Nat) (records : List WireItem)
    (h : ∀ j, ¬ Falls previous records j) : firstDrop previous offset records = none := by
  induction records generalizing previous offset with
  | nil => rfl
  | cons r rest ih =>
    rw [firstDrop_cons previous offset r rest (h 0)]
    exact ih _ _ fun j hj => h (j + 1) ((falls_succ ..).mpr hj)

theorem firstDrop_some (previous : Option Rank) (offset : Nat) (records : List WireItem) {j : Nat}
    (hj : Falls previous records j) (hfirst : ∀ k, k < j → ¬ Falls previous records k) :
    firstDrop previous offset records = some (offset + j) := by
  induction records generalizing previous offset j with
  | nil => obtain ⟨x, q, hx, -⟩ := hj; exact absurd hx (by simp)
  | cons r rest ih =>
    cases j with
    | zero =>
      obtain ⟨q, rfl, hlt⟩ := (falls_zero ..).mp hj
      exact if_pos hlt
    | succ j =>
      rw [firstDrop_cons previous offset r rest (hfirst 0 j.succ_pos), ih _ _ ((falls_succ ..).mp hj) fun k hk hf =>
        hfirst (k + 1) (Nat.succ_lt_succ hk) ((falls_succ ..).mpr hf)]
      congr 1
      omega

/-- Records written stand in their slots (R11). -/
theorem tget_writeItems (g i : Nat) (records : List WireItem) (t : Table Item) (n : Nat) :
    tget (writeItems g i records t) n =
      if n < i then tget t n else ((records[n - i]?).map (newItem g)).or (tget t n) := by
  induction records generalizing i t with
  | nil => simp [writeItems]
  | cons r rest ih =>
    rw [writeItems, ih]
    rcases Nat.lt_trichotomy n i with hlt | rfl | hgt
    · rw [if_pos (by omega), if_pos hlt, tget_tput_other _ _ _ _ (by omega)]
    · simp
    · have hsub : n - i = n - (i + 1) + 1 := by omega
      rw [if_neg (by omega), if_neg (by omega), hsub, List.getElem?_cons_succ, tget_tput_other _ _ _ _ (by omega)]

section
variable {s : State} {g offset : Nat} {records : List WireItem}

theorem loadItems_badFields (h : 2048 ≤ g ∨ ∃ x ∈ records, 5 < x.status) :
    loadItems g offset records s = segmentAnswer g s .badArgument := by
  refine if_pos ?_
  rw [Bool.or_eq_true, decide_eq_true_eq, List.any_eq_true]
  exact h.imp id fun ⟨x, hx, hs⟩ => ⟨x, hx, (circOfCode_isNone _).mpr hs⟩

/-- The checks of LOAD_ITEMS from the segment's state on (R11). -/
theorem loadItems_fields (hg : g < 2048) (hstatus : ∀ x ∈ records, x.status ≤ 5) :
    (decide (Config.segments ≤ g) || records.any fun r => (circOfCode r.status).isNone) = false := by
  rw [Bool.or_eq_false_iff, decide_eq_false_iff_not, List.any_eq_false]
  exact ⟨Nat.not_le.mpr hg, fun x hx => fun h => Nat.not_lt.mpr (hstatus x hx) ((circOfCode_isNone _).mp h)⟩

theorem loadItems_wrongState (hg : g < 2048) (hstatus : ∀ x ∈ records, x.status ≤ 5)
    (h : ∀ r n, s.segment g = some r → r.phase ≠ .loading n) :
    loadItems g offset records s = segmentAnswer g s .wrongState := by
  unfold loadItems
  rw [loadItems_fields hg hstatus, if_neg Bool.false_ne_true]
  split
  next => rfl
  next r hr =>
    split
    next n hp => exact absurd hp (h r n hr)
    next => rfl

variable {r : Segment} {n : Nat}

/-- The rank ahead of the records of a load (R11). -/
def lastRank (s : State) (r : Segment) (n : Nat) : Option Rank :=
  if n = 0 then none else (s.item (r.firstItem + (n - 1))).map Item.rank

/-- The state that a load's records leave (R11). -/
def itemsLoaded (s : State) (g : Nat) (r : Segment) (n : Nat) (records : List WireItem) : State :=
  let s' := s.setSegment g { r with phase := .loading (n + records.length) }
  { s' with store := { s'.store with items := writeItems g (r.firstItem + n) records s'.store.items } }

section
variable (hg : g < 2048) (hstatus : ∀ x ∈ records, x.status ≤ 5) (hr : s.segment g = some r) (hp : r.phase = .loading n)
include hg hstatus hr hp

theorem loadItems_sequenceError (hne : offset ≠ n) :
    loadItems g offset records s = segmentAnswer g s .sequenceError (.loadedSoFar n) := by
  unfold loadItems
  rw [loadItems_fields hg hstatus, if_neg Bool.false_ne_true, hr]
  dsimp only
  rw [hp]
  exact if_pos hne

theorem loadItems_tooLong (hlong : r.itemCount < n + records.length) :
    loadItems g n records s = segmentAnswer g s .badArgument := by
  unfold loadItems
  rw [loadItems_fields hg hstatus, if_neg Bool.false_ne_true, hr]
  dsimp only
  rw [hp]
  exact (if_neg fun hne => hne rfl).trans (if_pos hlong)

theorem loadItems_orderError (hfits : n + records.length ≤ r.itemCount) {bad : Nat}
    (hdrop : firstDrop (lastRank s r n) n records = some bad) :
    loadItems g n records s = segmentAnswer g s .orderError (.offset bad) := by
  unfold lastRank at hdrop
  unfold loadItems
  rw [loadItems_fields hg hstatus, if_neg Bool.false_ne_true, hr]
  dsimp only
  rw [hp]
  dsimp only
  rw [if_neg fun hne => hne rfl, if_neg (Nat.not_lt.mpr hfits), hdrop]

theorem loadItems_taken (hfits : n + records.length ≤ r.itemCount) (hdrop : firstDrop (lastRank s r n) n records = none) :
    loadItems g n records s = segmentAnswer g (itemsLoaded s g r n records) .ok (.loadedSoFar (n + records.length)) := by
  unfold lastRank at hdrop
  unfold loadItems
  rw [loadItems_fields hg hstatus, if_neg Bool.false_ne_true, hr]
  dsimp only
  rw [hp]
  dsimp only
  rw [if_neg fun hne => hne rfl, if_neg (Nat.not_lt.mpr hfits), hdrop]
  rfl

end

/-- Record j falls below the rank ahead of it, in the statement's words (R11). -/
theorem drops_iff (j : Nat) : Drops s r n records j ↔ Falls (lastRank s r n) records j := .rfl

end

/-- Settles O33, in the order of the checks of `loadItems`. -/
theorem loadItemsWritesTheNextRecords : Obligations.LoadItemsWritesTheNextRecords := by
  intro s before after sl g offset records hw
  refine ⟨fun hbad => ?_, fun hg hstatus => ⟨fun hphase => ?_, fun r n hr hp => ⟨fun hne => ?_, fun heq hlong => ?_,
    fun heq hfits => ⟨fun j hj hfirst => ?_, fun hnone => ?_⟩⟩⟩⟩
  · exact ⟨_, hw.exec_loadItems, hw.refuses _ g .badArgument .none (loadItems_badFields hbad)⟩
  · exact ⟨_, hw.exec_loadItems, hw.refuses _ g .wrongState .none (loadItems_wrongState hg hstatus hphase)⟩
  · exact ⟨_, hw.exec_loadItems, hw.refuses _ g .sequenceError (.loadedSoFar n)
      (loadItems_sequenceError (s := served s before sl after) hg hstatus hr hp hne)⟩
  all_goals subst heq
  · exact ⟨_, hw.exec_loadItems, hw.refuses _ g .badArgument .none
      (loadItems_tooLong (s := served s before sl after) hg hstatus hr hp hlong)⟩
  · have hdrop := firstDrop_some _ offset records ((drops_iff j).mp hj) hfirst
    exact ⟨_, hw.exec_loadItems, hw.refuses _ g .orderError (.offset (offset + j))
      (loadItems_orderError (s := served s before sl after) hg hstatus hr hp hfits hdrop)⟩
  · obtain ⟨hreply, hframe⟩ := hw.answersSegment hg
      (loadItems_taken (s := served s before sl after) hg hstatus hr hp hfits (firstDrop_none _ offset records hnone)) rfl
    refine ⟨_, hw.exec_loadItems, hreply, ?_, fun h hne => ?_, fun j x hx => ?_, fun i hi => ?_, ?_, ?_⟩ <;> rw [hframe]
    · exact (State.setSegment_segment s g g _).trans (if_pos rfl)
    · exact (State.setSegment_segment s g h _).trans (if_neg hne)
    · obtain ⟨st, hst⟩ : ∃ st, circOfCode x.status = some st := by
        rw [← Option.isSome_iff_exists, ← Option.not_isNone, Bool.not_eq_true', Bool.eq_false_iff, ne_eq, circOfCode_isNone]
        exact Nat.not_lt.mpr (hstatus x (List.mem_of_getElem? hx))
      refine ⟨st, (circOfCode_eq_some _ _).mp hst, ?_⟩
      change tget (writeItems g (r.firstItem + offset) records s.store.items) _ = _
      rw [tget_writeItems, if_neg (by omega), Nat.add_sub_cancel_left, hx]
      simp [newItem, hst]
    · change tget (writeItems g (r.firstItem + offset) records s.store.items) _ = _
      rw [tget_writeItems]
      split
      · rfl
      · rw [List.getElem?_eq_none (by omega)]; rfl
    · rfl
    · rfl

/-! ### Runs given back (R1, R3) -/

/-- The entries of a table in form are different. -/
theorem nodup_of_wf {α : Type} {t : Table α} (hwf : Table.wf t) : t.Nodup :=
  List.Nodup.of_map Prod.fst (hwf.imp Nat.ne_of_lt)

/-- A table is an entry and the rest of it. -/
theorem terase_perm {α : Type} (t : Table α) (hwf : Table.wf t) {n : Nat} {x : α} (h : tget t n = some x) :
    t.Perm ((n, x) :: terase t n) := by
  have hgone : (n, x) ∉ terase t n := by
    rw [← tget_eq_some _ (terase_wf t n hwf), tget_terase_same t hwf]
    simp
  refine (List.perm_ext_iff_of_nodup (nodup_of_wf hwf)
    (List.nodup_cons.mpr ⟨hgone, nodup_of_wf (terase_wf t n hwf)⟩)).mpr ?_
  rintro ⟨k, y⟩
  rw [← tget_eq_some t hwf, List.mem_cons, ← tget_eq_some _ (terase_wf t n hwf)]
  by_cases hk : k = n
  · subst hk
    rw [h, tget_terase_same t hwf]
    simp [eq_comm]
  · rw [tget_terase_other t hwf n k hk]
    simp [hk]

section
variable {s : State} {g : Nat} {r : Segment}

/-- A run given back (R1, R3). -/
theorem giveBack_givenBack (ht : TablesOk s) (hruns : RunsOk s) (hr : s.segment g = some r) :
    GivenBack s (giveBack s g r) g r where
  unloaded := (giveBack_segment ht g r g).trans (if_pos rfl)
  segments h hne := (giveBack_segment ht g r h).trans (if_neg hne)
  slots i := by
    change tget (tfilter (fun i _ => !inRun r i) s.store.items) i = _
    rw [tget_tfilter _ _ ht.items]
    unfold State.item
    cases tget s.store.items i <;> cases inRun r i <;> simp [Option.filter]
  free := by
    have hsum := ((terase_perm s.store.segments ht.segments hr).map fun e => e.2.itemCount).sum_eq
    rw [List.map_cons, List.sum_cons] at hsum
    have hnow := hruns.freeCount
    change countFree (terase s.store.segments g) = _
    rw [countFree_eq]
    dsimp only at hsum
    omega

/-- What is given back stands so in any state with that store. -/
theorem GivenBack.congr {t u : State} (h : GivenBack s t g r) (hstore : u.store = t.store) : GivenBack s u g r where
  unloaded := by unfold State.segment; rw [hstore]; exact h.unloaded
  segments k hk := by unfold State.segment; rw [hstore]; exact h.segments k hk
  slots i := by unfold State.item; rw [hstore]; exact h.slots i
  free := by rw [hstore]; exact h.free

/-- The record of an UNLOADED segment gives a reply the state 0 (R8). -/
theorem stateByte_unloaded {u : State} (h : u.segment g = none) : stateByte u g = some 0 := by
  unfold stateByte; rw [h]; rfl

/-- The written items of a run, by their slots. -/
theorem mem_runItems (ht : TablesOk s) (i : Nat) (it : Item) :
    (i, it) ∈ runItems s r ↔ inRun r i = true ∧ s.item i = some it := by
  unfold runItems State.item
  rw [← tget_eq_some _ (tfilter_wf (fun i _ => inRun r i) _ ht.items), tget_tfilter _ _ ht.items, Option.filter_eq_some_iff]
  exact and_comm

theorem runItems_wf (ht : TablesOk s) : Table.wf (runItems s r) := tfilter_wf (fun i _ => inRun r i) _ ht.items

/-! ### LOAD_ABORT (R14) -/

theorem loadAbort_wrongState (hg : g < 2048) (h : ∀ r n, s.segment g = some r → r.phase ≠ .loading n) :
    loadAbort g s = segmentAnswer g s .wrongState := by
  unfold loadAbort
  rw [if_neg (by exact Nat.not_le.mpr hg)]
  split
  next => rfl
  next r hr =>
    split
    next n hp => exact absurd hp (h r n hr)
    next => rfl

theorem loadAbort_taken (hg : g < 2048) (hr : s.segment g = some r) {n : Nat} (hp : r.phase = .loading n) :
    loadAbort g s = segmentAnswer g (giveBack s g r) .ok := by
  unfold loadAbort
  rw [if_neg (by exact Nat.not_le.mpr hg), hr]
  dsimp only
  rw [hp]

/-! ### UNLOAD (R15) -/

theorem unload_wrongState (hg : g < 2048) (h : ∀ r, s.segment g = some r → r.phase ≠ .ready ∧ r.phase ≠ .settled) :
    unload g s = segmentAnswer g s .wrongState := by
  unfold unload
  rw [if_neg (by exact Nat.not_le.mpr hg)]
  split
  next => rfl
  next r hr =>
    split
    next hp => exact absurd hp (h r hr).1
    next hp => exact absurd hp (h r hr).2
    next => rfl

theorem runItems_held (ht : TablesOk s) : ((runItems s r).any fun e => e.2.hold) = true ↔
    ∃ i it, inRun r i = true ∧ s.item i = some it ∧ it.hold = true := by
  rw [List.any_eq_true]
  constructor
  · rintro ⟨⟨i, it⟩, hmem, hheld⟩
    obtain ⟨hrun, hit⟩ := (mem_runItems ht i it).mp hmem
    exact ⟨i, it, hrun, hit, hheld⟩
  · rintro ⟨i, it, hrun, hit, hheld⟩
    exact ⟨(i, it), (mem_runItems ht i it).mpr ⟨hrun, hit⟩, hheld⟩

/-- A run with a held item is not unloaded (R15, R20). -/
theorem unload_busy (hg : g < 2048) (hr : s.segment g = some r) (hp : r.phase = .ready ∨ r.phase = .settled)
    (hheld : ((runItems s r).any fun e => e.2.hold) = true) : unload g s = segmentAnswer g s .busy := by
  unfold unload
  rw [if_neg (by exact Nat.not_le.mpr hg), hr]
  dsimp only
  rcases hp with hp | hp <;> rw [hp] <;> exact if_pos hheld

theorem unload_taken (hg : g < 2048) (hr : s.segment g = some r) (hp : r.phase = .ready ∨ r.phase = .settled)
    (hfree : ¬ ((runItems s r).any fun e => e.2.hold) = true) :
    unload g s = segmentAnswer g (unloadTaken s g r) .ok := by
  unfold unload
  rw [if_neg (by exact Nat.not_le.mpr hg), hr]
  dsimp only
  rcases hp with hp | hp <;> rw [hp] <;> exact if_neg hfree

/-- An observation loses an index of the run (R15, R68). -/
theorem stripObservation_eq (o : Observation) :
    stripObservation r o = if o.item.any (inRun r) then { o with item := none } else o := by
  obtain ⟨tag, item, _, _, _, _, _, _⟩ := o
  cases item <;> rfl

/-- What an UNLOAD leaves (R15). -/
theorem unloadTaken_spec (ht : TablesOk s) (hruns : RunsOk s) (hr : s.segment g = some r) :
    GivenBack s (unloadTaken s g r) g r ∧
    (∀ tag i, (unloadTaken s g r).lookup tag = some i ↔ s.lookup tag = some i ∧ inRun r i = false) ∧
    ∀ c, (unloadTaken s g r).context c = (s.context c).map fun ctx => { ctx with
      observations := ctx.observations.map fun o => if o.item.any (inRun r) then { o with item := none } else o } := by
  refine ⟨?_, fun tag i => ?_, fun c => ?_⟩
  · let u : State := { s with
      store := { s.store with tagIndex := tfilter (fun _ i => !inRun r i) s.store.tagIndex }, pool := stripContexts r s.pool }
    have htables : TablesOk u := ⟨ht.segments, ht.items, tfilter_wf (fun _ i => !inRun r i) _ ht.tagIndex⟩
    have hok : RunsOk u := ⟨hruns.numbers, hruns.counts, hruns.inside, hruns.apart, hruns.freeCount, hruns.largestFree⟩
    have hback := giveBack_givenBack (s := u) htables hok hr
    exact ⟨hback.unloaded, hback.segments, hback.slots, hback.free⟩
  · change tget (tfilter (fun _ i => !inRun r i) s.store.tagIndex) tag.toNat = some i ↔ _
    rw [tget_tfilter _ _ ht.tagIndex, Option.filter_eq_some_iff, Bool.not_eq_true']
    rfl
  · change (s.pool.contexts.map _)[c.val] = _
    rw [Vector.getElem_map]
    rw [show stripObservation r = _ from funext stripObservation_eq]
    rfl

end

/-- Settles O35. -/
theorem abortAndUnloadGiveTheRunBack : Obligations.AbortAndUnloadGiveTheRunBack := by
  intro s before after sl g htables hruns
  refine ⟨fun hw => ⟨fun hg => ?_, fun hg hphase => ?_, fun r n hr hp => ?_⟩,
    fun hw => ⟨fun hg => ?_, fun hg hphase => ?_, fun r hr hp => ⟨fun hheld => ?_, fun hfree => ?_⟩⟩⟩
  · exact ⟨_, hw.exec_loadAbort, hw.refuses _ g .badArgument .none (if_pos hg)⟩
  · exact ⟨_, hw.exec_loadAbort, hw.refuses _ g .wrongState .none (loadAbort_wrongState hg hphase)⟩
  · obtain ⟨hreply, hframe⟩ := hw.answersSegment (hruns.numbers g r hr)
      (loadAbort_taken (s := served s before sl after) (hruns.numbers g r hr) hr hp) rfl
    have hback : GivenBack s (serveNow s (loadAbort g)) g r :=
      (giveBack_givenBack htables hruns hr).congr (by rw [hframe]; rfl)
    rw [stateByte_unloaded hback.unloaded] at hreply
    refine ⟨_, hw.exec_loadAbort, hreply, hback, ?_, ?_⟩ <;> rw [hframe] <;> rfl
  · exact ⟨_, hw.exec_unload, hw.refuses _ g .badArgument .none (if_pos hg)⟩
  · exact ⟨_, hw.exec_unload, hw.refuses _ g .wrongState .none (unload_wrongState hg hphase)⟩
  · exact ⟨_, hw.exec_unload, hw.refuses _ g .busy .none (unload_busy (s := served s before sl after)
      (hruns.numbers g r hr) hr hp ((runItems_held (s := s) htables).mpr hheld))⟩
  · have hnone : ¬ ((runItems s r).any fun e => e.2.hold) = true := by
      rw [runItems_held htables]
      rintro ⟨i, it, hrun, hit, hheld⟩
      rw [hfree i it hrun hit] at hheld
      exact Bool.false_ne_true hheld
    obtain ⟨hreply, hframe⟩ := hw.answersSegment (hruns.numbers g r hr)
      (unload_taken (s := served s before sl after) (hruns.numbers g r hr) hr hp hnone) rfl
    obtain ⟨hgiven, hlookup, hcontext⟩ := unloadTaken_spec htables hruns hr
    have hback : GivenBack s (serveNow s (unload g)) g r := hgiven.congr (by rw [hframe]; rfl)
    rw [stateByte_unloaded hback.unloaded] at hreply
    refine ⟨_, hw.exec_unload, hreply, hback, ?_, ?_, ?_, ?_⟩ <;> rw [hframe]
    · exact hlookup
    · exact hcontext
    · rfl
    · rfl

/-! ### LOAD_END and its duplicate check (R12, R13) -/

section
variable {s : State} {g : Nat} {r : Segment}

theorem loadEndRefusal_wrongState (hg : g < 2048) (h : ∀ r n, s.segment g = some r → r.phase ≠ .loading n) :
    loadEndRefusal s g = some (segmentAnswer g s .wrongState).2 := by
  unfold loadEndRefusal
  rw [if_neg (by exact Nat.not_le.mpr hg)]
  split
  next => rfl
  next r hr =>
    split
    next n hp => exact absurd hp (h r n hr)
    next => rfl

theorem loadEndRefusal_loading (hg : g < 2048) (hr : s.segment g = some r) {n : Nat} (hp : r.phase = .loading n) :
    loadEndRefusal s g =
      if n < r.itemCount then some (segmentAnswer g s .countMismatch (.loadedSoFar n)).2 else none := by
  unfold loadEndRefusal
  rw [if_neg (by exact Nat.not_le.mpr hg), hr]
  dsimp only
  rw [hp]

/-- Records whose tags are not indexed and differ from each other and from those seen (R13). -/
def NoClash (indexed : Tag → Option Nat) : List Tag → Table Item → Prop
  | _, [] => True
  | seen, (_, it) :: rest => indexed it.tag = none ∧ it.tag ∉ seen ∧ NoClash indexed (it.tag :: seen) rest

/-- Records that do not clash are passed over. -/
theorem firstDuplicate_append (indexed : Tag → Option Nat) (first : Nat) (seen : List Tag) (clean rest : Table Item)
    (h : NoClash indexed seen clean) : firstDuplicate indexed first seen (clean ++ rest) =
      firstDuplicate indexed first ((clean.map fun e => e.2.tag).reverse ++ seen) rest := by
  induction clean generalizing seen with
  | nil => rfl
  | cons e clean ih =>
    obtain ⟨i, it⟩ := e
    obtain ⟨hindex, hseen, hclean⟩ := h
    rw [List.cons_append, firstDuplicate, hindex]
    dsimp only
    rw [if_neg (by simpa using hseen), ih _ hclean]
    simp

/-- The check finds the first record that clashes (R13). -/
theorem firstDuplicate_clash (indexed : Tag → Option Nat) (first : Nat) (seen : List Tag) (i : Nat) (it : Item)
    (rest : Table Item) (h : indexed it.tag ≠ none ∨ it.tag ∈ seen) :
    firstDuplicate indexed first seen ((i, it) :: rest) = some (i - first, indexed it.tag) := by
  unfold firstDuplicate
  split
  next j hj => rw [hj]
  next hnone =>
    rw [if_pos (by simpa using h.resolve_left fun hne => hne hnone), hnone]

/-- Records none of which is indexed or stands behind one with its tag do not clash. -/
theorem noClash_of (indexed : Tag → Option Nat) (seen : List Tag) (run : Table Item)
    (h : ∀ clean i it rest, run = clean ++ (i, it) :: rest →
      indexed it.tag = none ∧ it.tag ∉ seen ∧ ∀ e ∈ clean, e.2.tag ≠ it.tag) : NoClash indexed seen run := by
  induction run generalizing seen with
  | nil => trivial
  | cons e run ih =>
    obtain ⟨i, it⟩ := e
    obtain ⟨hindex, hseen, -⟩ := h [] i it run rfl
    refine ⟨hindex, hseen, ih _ fun clean j jt rest heq => ?_⟩
    obtain ⟨hj, hjs, hclean⟩ := h ((i, it) :: clean) j jt rest (by rw [heq]; rfl)
    refine ⟨hj, ?_, fun e he => hclean e (List.mem_cons_of_mem _ he)⟩
    rw [List.mem_cons, not_or]
    exact ⟨(hclean (i, it) List.mem_cons_self).symm, hjs⟩

/-- The records before one in a run are those of lower offset. -/
theorem runItems_before (ht : TablesOk s) {clean rest : Table Item} {i : Nat} {it : Item}
    (heq : runItems s r = clean ++ (i, it) :: rest) (k : Nat) (kt : Item) :
    (k, kt) ∈ clean ↔ k < i ∧ inRun r k = true ∧ s.item k = some kt := by
  have hwf := runItems_wf (r := r) ht
  rw [heq, Table.wf, List.map_append, List.map_cons, List.pairwise_append, List.pairwise_cons] at hwf
  obtain ⟨-, ⟨hafter, -⟩, hbefore⟩ := hwf
  rw [← mem_runItems ht, heq, List.mem_append, List.mem_cons]
  constructor
  · exact fun hk => ⟨hbefore k (List.mem_map_of_mem hk) i List.mem_cons_self, .inl hk⟩
  · rintro ⟨hlt, hk | hk | hk⟩
    · exact hk
    · rw [(Prod.mk.inj hk).1] at hlt; exact absurd hlt (lt_irrefl i)
    · exact absurd (hafter k (List.mem_map_of_mem hk)) (Nat.not_lt.mpr hlt.le)

/-- What offends, by the records before it (R13). -/
theorem offends_iff (ht : TablesOk s) {clean rest : Table Item} {i : Nat} {it : Item}
    (heq : runItems s r = clean ++ (i, it) :: rest) :
    Offends s r i ↔ s.lookup it.tag ≠ none ∨ it.tag ∈ clean.map fun e => e.2.tag := by
  obtain ⟨hrun, hit⟩ := (mem_runItems (r := r) ht i it).mp (by rw [heq]; simp)
  have hbefore : (∃ k other, k < i ∧ inRun r k = true ∧ s.item k = some other ∧ other.tag = it.tag) ↔
      it.tag ∈ clean.map fun e => e.2.tag := by
    rw [List.mem_map]
    constructor
    · rintro ⟨k, other, hk, hkr, hko, htag⟩
      exact ⟨(k, other), (runItems_before ht heq k other).mpr ⟨hk, hkr, hko⟩, htag⟩
    · rintro ⟨⟨k, other⟩, hmem, htag⟩
      obtain ⟨hk, hkr, hko⟩ := (runItems_before ht heq k other).mp hmem
      exact ⟨k, other, hk, hkr, hko, htag⟩
  unfold Offends
  rw [← hbefore, Option.ne_none_iff_exists']
  constructor
  · rintro ⟨-, it', hit', hoffends⟩
    obtain rfl := Option.some.inj (hit.symm.trans hit')
    exact hoffends
  · exact fun hoffends => ⟨hrun, it, hit, hoffends⟩

/-- Records of which none offends do not clash (R13). -/
theorem noClash_of_noOffence (ht : TablesOk s) {run rest : Table Item} (heq : runItems s r = run ++ rest)
    (h : ∀ k kt, (k, kt) ∈ run → ¬ Offends s r k) : NoClash s.lookup [] run := by
  refine noClash_of _ _ _ fun clean i it more hrun => ?_
  have hsplit : runItems s r = clean ++ (i, it) :: (more ++ rest) := by rw [heq, hrun]; simp
  have hnot := h i it (by rw [hrun]; simp)
  rw [offends_iff ht hsplit, not_or, not_not] at hnot
  refine ⟨hnot.1, List.not_mem_nil, fun e he htag => hnot.2 (List.mem_map.mpr ⟨e, he, htag⟩)⟩

/-- The duplicate check passes a run of which no record offends (R13). -/
theorem firstDuplicate_none (ht : TablesOk s) (h : ∀ i, ¬ Offends s r i) :
    firstDuplicate s.lookup r.firstItem [] (runItems s r) = none := by
  have hclean := noClash_of_noOffence ht (List.append_nil _).symm fun k _ _ => h k
  have hrun := firstDuplicate_append s.lookup r.firstItem [] (runItems s r) [] hclean
  rwa [List.append_nil] at hrun

/-- The duplicate check names the first record that offends (R13). -/
theorem firstDuplicate_some (ht : TablesOk s) {i : Nat} {it : Item} (h : Offends s r i)
    (hfirst : ∀ k, k < i → ¬ Offends s r k) (hit : s.item i = some it) :
    firstDuplicate s.lookup r.firstItem [] (runItems s r) = some (i - r.firstItem, s.lookup it.tag) := by
  obtain ⟨clean, rest, heq⟩ := List.append_of_mem ((mem_runItems ht i it).mpr ⟨h.1, hit⟩)
  have hclean : NoClash s.lookup [] clean := by
    refine noClash_of_noOffence ht heq fun k kt hk => hfirst k ?_
    exact ((runItems_before ht heq k kt).mp hk).1
  rw [heq, firstDuplicate_append _ _ _ _ _ hclean]
  refine firstDuplicate_clash _ _ _ _ _ _ (((offends_iff ht heq).mp h).imp id fun hmem => ?_)
  simpa using hmem

/-- Tags that no record of the run has keep their entry (R13). -/
theorem tget_indexItems_other (run : Table Item) (t : Table Nat) (n : Nat)
    (h : ∀ e ∈ run, e.2.tag.toNat ≠ n) : tget (indexItems run t) n = tget t n := by
  induction run generalizing t with
  | nil => rfl
  | cons e run ih =>
    rw [indexItems, ih _ fun f hf => h f (List.mem_cons_of_mem _ hf),
      tget_tput_other _ _ _ _ (h e List.mem_cons_self).symm]

/-- The tags of a run without a clash are indexed to their slots (R13). -/
theorem tget_indexItems (indexed : Tag → Option Nat) (seen : List Tag) (run : Table Item) (t : Table Nat)
    (h : NoClash indexed seen run) {i : Nat} {it : Item} (hmem : (i, it) ∈ run) :
    tget (indexItems run t) it.tag.toNat = some i := by
  have hapart (seen : List Tag) (run : Table Item) (h : NoClash indexed seen run) : ∀ e ∈ run, e.2.tag ∉ seen := by
    induction run generalizing seen with
    | nil => exact fun e he => absurd he List.not_mem_nil
    | cons e run ih =>
      obtain ⟨k, kt⟩ := e
      intro f hf
      rcases List.mem_cons.mp hf with rfl | hf
      · exact h.2.1
      · exact fun hs => ih _ h.2.2 f hf (List.mem_cons_of_mem _ hs)
  induction run generalizing seen t with
  | nil => exact absurd hmem List.not_mem_nil
  | cons e run ih =>
    obtain ⟨k, kt⟩ := e
    rw [indexItems]
    rcases List.mem_cons.mp hmem with heq | hmem
    · obtain ⟨rfl, rfl⟩ := Prod.mk.inj heq
      rw [tget_indexItems_other _ _ _ fun f hf htag => ?_, tget_tput_same]
      exact hapart _ run h.2.2 f hf (by rw [BitVec.eq_of_toNat_eq htag]; exact List.mem_cons_self)
    · exact ih _ _ h.2.2 hmem

/-- The segment READY and the records of its run indexed (R13). -/
def indexedRun (s : State) (g : Nat) (r : Segment) : State :=
  let s' := s.setSegment g { r with phase := .ready }
  { s' with store := { s'.store with tagIndex := indexItems (runItems s r) s.store.tagIndex } }

theorem finishCheck_passed (h : firstDuplicate s.lookup r.firstItem [] (runItems s r) = none) :
    finishCheck s g r = segmentAnswer g (indexedRun s g r) .ok (.itemCount r.itemCount) := by
  unfold finishCheck
  rw [h]; rfl

theorem finishCheck_clash {offset : Nat} {clash : Option Nat}
    (h : firstDuplicate s.lookup r.firstItem [] (runItems s r) = some (offset, clash)) :
    finishCheck s g r = segmentAnswer g (giveBack s g r) .duplicateTag (.duplicate offset clash) := by
  unfold finishCheck
  rw [h]

/-- The reply to a duplicate check carries the segment's state after it (R8, R13). -/
theorem InWork.answersSegment {before after : List Slot} {sl : Slot} {n : Nat}
    (hw : InWork s before sl after (.loadEnd g) .duplicateCheck) (hg : g < 2048) (hr : s.segment g = some r)
    (hp : r.phase = .loading n) {u : State} {st : Status} {body : ReplyBody}
    (he : finishCheck s g r = segmentAnswer g u st body) (hu : u.requests = s.requests) :
    ∃ t, exec .loadEndCheckDone s = .next t ∧ Answers s t before sl after 0x08 st (stateByte t g) body ∧
      t = { u with requests := t.requests } := by
  let a : Answer := { status := st, segState := segmentStateByte u g, body := body }
  obtain ⟨hreply, hframe⟩ := hw.answers (u := u) a hu
  have hbyte : stateByte (answerHead u a) g = segmentStateByte u g := by
    rw [segmentStateByte_eq u g hg]
    exact stateByte_congr (by rw [hframe]; rfl)
  refine ⟨answerHead u a, ?_, by rw [hbyte]; exact hreply, hframe⟩
  change execLoadEndCheckDone s = _
  simp only [execLoadEndCheckDone, hw.inService, hr, hp, he]
  rfl

end

/-- Settles O34: the check finds the first record that offends, by going through the run in slot order. -/
theorem loadEndChecksForDuplicates : Obligations.LoadEndChecksForDuplicates := by
  intro s before after sl g
  refine ⟨fun hw => ⟨fun hg => ?_, fun hg hphase => ?_, fun r n hg hr hp => ⟨fun hlt => ?_, fun hle => ?_⟩⟩,
    fun r n hw htables hruns hr hp => ⟨fun hnone => ?_, fun i it hi hfirst hit => ?_⟩⟩
  · exact ⟨_, hw.exec_loadEnd_refused (if_pos hg), hw.refuses _ g .badArgument .none rfl⟩
  · exact ⟨_, hw.exec_loadEnd_refused (loadEndRefusal_wrongState hg hphase), hw.refuses _ g .wrongState .none rfl⟩
  · have hrefused := loadEndRefusal_loading hg hr hp
    rw [if_pos hlt] at hrefused
    exact ⟨_, hw.exec_loadEnd_refused hrefused, hw.refuses _ g .countMismatch (.loadedSoFar n) rfl⟩
  · have htaken := loadEndRefusal_loading hg hr hp
    rw [if_neg (Nat.not_lt.mpr hle)] at htaken
    exact ⟨_, hw.exec_loadEnd_taken htaken, hw.begins _⟩
  · obtain ⟨t, hexec, hreply, hframe⟩ := hw.answersSegment (hruns.numbers g r hr) hr hp
      (finishCheck_passed (firstDuplicate_none htables hnone)) rfl
    have hclean := noClash_of_noOffence htables (List.append_nil (runItems s r)).symm fun k _ _ => hnone k
    refine ⟨t, hexec, hreply, ?_, fun h hne => ?_, fun i it hrun hit => ?_, fun tag htag => ?_, ?_, ?_⟩ <;> rw [hframe]
    · exact (State.setSegment_segment s g g _).trans (if_pos rfl)
    · exact (State.setSegment_segment s g h _).trans (if_neg hne)
    · exact tget_indexItems _ _ _ _ hclean ((mem_runItems htables i it).mpr ⟨hrun, hit⟩)
    · refine tget_indexItems_other _ _ _ fun e he heq => ?_
      obtain ⟨hrun, hit⟩ := (mem_runItems htables e.1 e.2).mp he
      exact htag e.1 e.2 hrun hit (BitVec.eq_of_toNat_eq heq)
    · rfl
    · rfl
  · obtain ⟨t, hexec, hreply, hframe⟩ := hw.answersSegment (hruns.numbers g r hr) hr hp
      (finishCheck_clash (firstDuplicate_some htables hi hfirst hit)) rfl
    refine ⟨t, hexec, hreply, (giveBack_givenBack htables hruns hr).congr (by rw [hframe]), ?_, ?_⟩ <;> rw [hframe] <;> rfl

end Sys2Proof.Machine
end

section
/-! What a lane's service leaves: the entry drained, and what an ENTER, a SIGHT and a LEAVE do to the rest of the part. -/

namespace Sys2Proof.Machine

section
variable {s t u v : State} {l : Fin 8}

/-! ### The reach of an entry's action -/

/-- From s to t the entry of lane l has acted: the lane's state and void-sighting tally, another lane's re-evaluation flag,
the segments, the contexts, the Settle Queue, the Findings Queue and the notices are all that may have changed. -/
structure Acts (s t : State) (l : Fin 8) : Prop where
  own : t.lane l = { s.lane l with mode := (t.lane l).mode, voidTally := (t.lane l).voidTally }
  others : ∀ m, m ≠ l → t.lane m = s.lane m ∨ t.lane m = flagLane (s.lane m)
  next : t.lanes.next = s.lanes.next
  store : t.store = { s.store with segments := t.store.segments }
  frame : t = { s with
    lanes := t.lanes, store := t.store, pool := t.pool, settle := t.settle, findq := t.findq, notices := t.notices }

/-- The same with the lane's void-sighting tally left as it was. -/
structure ActsSightless (s t : State) (l : Fin 8) : Prop extends Acts s t l where
  void : (t.lane l).voidTally = (s.lane l).voidTally

theorem Acts.refl (s : State) (l : Fin 8) : Acts s s l := ⟨rfl, fun _ _ => .inl rfl, rfl, rfl, rfl⟩

theorem ActsSightless.refl (s : State) (l : Fin 8) : ActsSightless s s l := ⟨.refl s l, rfl⟩

theorem Acts.trans (h : Acts s t l) (k : Acts t u l) : Acts s u l where
  own := by rw [k.own, h.own]
  others m hm := by
    rcases h.others m hm with hst | hst <;> rcases k.others m hm with htu | htu <;> rw [htu, hst]
    · exact .inl rfl
    · exact .inr rfl
    · exact .inr rfl
    · exact .inr (flagLane_idem _)
  next := k.next.trans h.next
  store := by rw [k.store, h.store]
  frame := by rw [k.frame, h.frame]

theorem ActsSightless.trans (h : ActsSightless s t l) (k : ActsSightless t u l) : ActsSightless s u l :=
  ⟨h.toActs.trans k.toActs, k.void.trans h.void⟩

/-- What leaves every lane and the store acts on no lane. -/
theorem ActsSightless.of_lanes (hlanes : t.lanes = s.lanes) (hstore : t.store = s.store)
    (hframe : t = { s with pool := t.pool, findq := t.findq, notices := t.notices }) : ActsSightless s t l := by
  have hlane (m : Fin 8) := State.lane_eq_of_lanes hlanes m
  exact ⟨⟨by rw [hlane], fun m _ => .inl (hlane m), by rw [hlanes], by rw [hstore],
    by rw [hframe]⟩, by rw [hlane]⟩

theorem setMode_acts (s : State) (l : Fin 8) (m : LaneMode) : ActsSightless s (s.setMode l m) l where
  own := by rw [State.setMode_lane, if_pos rfl]
  others k hk := .inl (by rw [State.setMode_lane, if_neg hk])
  next := rfl
  store := rfl
  frame := rfl
  void := by rw [State.setMode_lane, if_pos rfl]

theorem pushOther_acts (s : State) (f : Finding) (l : Fin 8) : ActsSightless s (pushOther s f) l :=
  .of_lanes (pushOther_lanes s f) (by rw [pushOther_frame]) (by rw [pushOther_frame])

theorem flagWaiting_acts (s : State) (l : Fin 8) : ActsSightless s (flagWaiting s) l where
  own := by rw [flagWaiting_lane, (flagLane_fields _).1]
  others m _ := .inr (flagWaiting_lane s m)
  next := rfl
  store := rfl
  frame := rfl
  void := by rw [flagWaiting_lane, (flagLane_fields _).1]

/-- A segment and a context changed. -/
theorem setPhase_acts (s : State) (c : Fin 16) (ctx : Option Context) (g : Nat) (p : Phase) (l : Fin 8) :
    ActsSightless s ((s.setContext c ctx).setPhase g p) l := by
  have hlane (m : Fin 8) : ((s.setContext c ctx).setPhase g p).lane m = s.lane m := State.lane_eq_of_lanes (by simp) m
  refine ⟨⟨by rw [hlane], fun m _ => .inl (hlane m), by simp, ?_, ?_⟩, by rw [hlane]⟩
  · rw [State.setPhase_store]; rfl
  · apply State.ext_fields <;> simp

theorem closeContext_acts (s : State) (c : Fin 16) (cause : CloseCause) (l : Fin 8) :
    ActsSightless s (closeContext s c cause) l := by
  unfold closeContext
  split
  · exact .refl s l
  · split
    · exact .refl s l
    · split
      · exact (setPhase_acts s _ _ _ _ l).trans (flagWaiting_acts _ l)
      · have hset := setPhase_acts s c (some { ‹Context› with phase := .closed ‹Fin 8› cause }) (‹Context›).segment (.settling c) l
        exact ⟨⟨hset.own, hset.others, hset.next, hset.store, by
          unfold handOff joinSettleQueue
          apply State.ext_fields <;> simp⟩, hset.void⟩

theorem closeLane_acts (s : State) (l : Fin 8) (cause : CloseCause) (m : LaneMode) :
    ActsSightless s (closeLane s l cause m) l := by
  unfold closeLane
  split
  · exact (closeContext_acts s _ cause l).trans (setMode_acts _ l m)
  · exact setMode_acts s l m

theorem openContext_acts (s : State) (l : Fin 8) (g : Nat) (c : Fin 16) (prior : Prior) :
    ActsSightless s (openContext s l g c prior) l :=
  (setPhase_acts s c _ g _ l).trans (setMode_acts _ l _)

theorem applyGap_acts (s : State) (l : Fin 8) (gap : Bool) : ActsSightless s (applyGap s l gap) l := by
  unfold applyGap
  split
  · exact closeLane_acts s l _ _
  · exact .refl s l

theorem evalEnter_acts (s : State) (l : Fin 8) (rel : Nat) (gap : Bool) : ActsSightless s (evalEnter s l rel gap) l := by
  unfold evalEnter
  split
  · exact setMode_acts s l _
  · exact (openContext_acts s l _ _ _).trans (applyGap_acts _ l gap)
  · split
    · exact (pushOther_acts s _ l).trans (setMode_acts _ l _)
    · exact .refl s l

theorem closeForEnter_acts (s : State) (l : Fin 8) : ActsSightless s (closeForEnter s l) l := by
  unfold closeForEnter
  split
  · exact closeLane_acts s l _ _
  · exact .refl s l

theorem actLeave_acts (s : State) (l : Fin 8) : ActsSightless s (actLeave s l) l := by
  unfold actLeave
  split
  · exact closeLane_acts s l _ _
  · exact setMode_acts s l _

theorem formObservation_frame (s : State) (l : Fin 8) (c : Fin 16) (ctx : Context) (tag : Tag) (rssi : Int)
    (position : Option Nat) (arrival : Time) : formObservation s l c ctx tag rssi position arrival =
      { s with
        pool := (formObservation s l c ctx tag rssi position arrival).pool
        findq := (formObservation s l c ctx tag rssi position arrival).findq
        notices := (formObservation s l c ctx tag rssi position arrival).notices } := by
  unfold formObservation
  dsimp only
  split
  · rw [pushOther_frame]; rfl
  · rfl

theorem admitSighting_frame (s : State) (l : Fin 8) (c : Fin 16) (ctx : Context) (tag : Tag) (rssi : Int)
    (position : Option Nat) (arrival : Time) : admitSighting s l c ctx tag rssi position arrival =
      { s with
        pool := (admitSighting s l c ctx tag rssi position arrival).pool
        findq := (admitSighting s l c ctx tag rssi position arrival).findq
        notices := (admitSighting s l c ctx tag rssi position arrival).notices } := by
  unfold admitSighting
  split
  · rfl
  · split
    · unfold discardAtCap
      dsimp only
      split
      · rw [pushOther_frame]; rfl
      · rfl
    · split
      · unfold discardForPool
        dsimp only
        split
        · rw [pushOther_frame]; rfl
        · rfl
      · exact formObservation_frame s l c ctx tag rssi position arrival

theorem admitSighting_acts (s : State) (l m : Fin 8) (c : Fin 16) (ctx : Context) (tag : Tag) (rssi : Int)
    (position : Option Nat) (arrival : Time) : ActsSightless s (admitSighting s l c ctx tag rssi position arrival) m := by
  refine .of_lanes ?_ ?_ ?_ <;> rw [admitSighting_frame]

theorem actSight_acts (s : State) (l : Fin 8) (tag : Tag) (rssi : Int) (position : Option Nat) (arrival : Time) :
    Acts s (actSight s l tag rssi position arrival) l := by
  unfold actSight
  split
  · exact ⟨by rw [State.setLane_lane_same], fun m hm => .inl (by rw [State.setLane_lane, if_neg hm]), rfl, rfl, rfl⟩
  · split
    · exact .refl s l
    · split
      · exact .refl s l
      · exact ((admitSighting_acts s l l _ _ tag rssi position arrival).trans (setMode_acts _ l _)).toActs

/-! ### The entry drained (R30, R59) -/

/-- In v the head entry has been taken from lane l's queue, of which `rest` remains (R30, R54 to R56, R59). -/
structure HeadTaken (s v : State) (l : Fin 8) (rest : List Entry) : Prop where
  own : v.lane l = { s.lane l with
    queue := rest, paused := (pausesAt s.opts [rest.length] (s.lane l).paused s.field.signals[l.val]).1
    overrun := (s.lane l).overrun && decide (s.opts.laneAE < rest.length) }
  others : OtherLanes s v l
  field : v.field = { s.field with
    signals := s.field.signals.set l.val
      (pausesAt s.opts [rest.length] (s.lane l).paused s.field.signals[l.val]).2 l.isLt }
  next : v.lanes.next = l + 1
  frame : v = { s with lanes := v.lanes, field := v.field, notices := v.notices }

theorem takeHead_taken {e : Entry} {rest : List Entry} (h : (s.lane l).queue = e :: rest) :
    HeadTaken s (takeHead s l) l rest := by
  obtain ⟨hlane, hfield, hnext, hframe⟩ := takeHead_spec s l e rest h
  exact ⟨by rw [hlane, if_pos rfl], fun m hm => by rw [hlane, if_neg hm], hfield, hnext, hframe⟩

theorem Drains.exec_enter {rel : Nat} {gap : Bool} {rest : List Entry}
    (h : Drains s l { kind := .enter rel, gap := gap } rest) :
    exec .drainEnter s = .next (evalEnter (closeForEnter (takeHead s l) l) l rel gap) := by
  change execDrainEnter s = _
  simp only [execDrainEnter, h.nextDrain]

theorem Drains.exec_sight {tag : Tag} {rssi : Int} {position : Option Nat} {arrival : Time} {gap : Bool}
    {rest : List Entry} (h : Drains s l { kind := .sight tag rssi position arrival, gap := gap } rest) :
    exec .drainSight s = .next (applyGap (actSight (takeHead s l) l tag rssi position arrival) l gap) := by
  change execDrainSight s = _
  simp only [execDrainSight, h.nextDrain]

theorem Drains.exec_leave {gap : Bool} {rest : List Entry} (h : Drains s l { kind := .leave, gap := gap } rest) :
    exec .drainLeave s = .next (applyGap (actLeave (takeHead s l) l) l gap) := by
  change execDrainLeave s = _
  simp only [execDrainLeave, h.nextDrain]

/-- Every drain takes the head entry and lets it act; an entry that is no SIGHT leaves the void-sighting tally (R36). -/
theorem Drains.exec_acts {i : Instr} {e : Entry} {rest : List Entry} (h : Drains s l e rest)
    (hi : i = .drainEnter ∧ (∃ rel, e.kind = .enter rel) ∨
      i = .drainSight ∧ (∃ tag rssi p at_, e.kind = .sight tag rssi p at_) ∨ i = .drainLeave ∧ e.kind = .leave) :
    ∃ t, exec i s = .next t ∧ Acts (takeHead s l) t l ∧
      (i ≠ .drainSight → (t.lane l).voidTally = ((takeHead s l).lane l).voidTally) := by
  obtain ⟨kind, gap⟩ := e
  dsimp only at hi
  rcases hi with ⟨rfl, rel, rfl⟩ | ⟨rfl, tag, rssi, p, arrival, rfl⟩ | ⟨rfl, rfl⟩
  · have hacts := (closeForEnter_acts (takeHead s l) l).trans (evalEnter_acts _ l rel gap)
    exact ⟨_, h.exec_enter, hacts.toActs, fun _ => hacts.void⟩
  · exact ⟨_, h.exec_sight, (actSight_acts _ l tag rssi p arrival).trans (applyGap_acts _ l gap).toActs, absurd rfl⟩
  · have hacts := (actLeave_acts (takeHead s l) l).trans (applyGap_acts _ l gap)
    exact ⟨_, h.exec_leave, hacts.toActs, fun _ => hacts.void⟩

end

theorem flagLane_waiting {r : Lane} {rel : Nat} {gap f : Bool} (h : r.mode = .waiting rel gap f) :
    flagLane r = { r with mode := .waiting rel gap true } := by
  unfold flagLane; rw [h]

theorem flagLane_notWaiting {r : Lane} (h : ∀ rel gap f, r.mode ≠ .waiting rel gap f) : flagLane r = r := by
  refine flagLane_mode r ?_
  cases hm : r.mode with
  | waiting rel gap f => exact absurd hm (h rel gap f)
  | _ => rfl

/-- Settles O42: the head is taken as `takeHead_taken` says, and the entry's action reaches no further than `Acts`. -/
theorem drainsTakeTheHeadEntry : Obligations.DrainsTakeTheHeadEntry := by
  refine ⟨fun r => ⟨fun rel gap f => flagLane_waiting, flagLane_notWaiting⟩, fun s i l e rest hd hi => ?_⟩
  obtain ⟨t, hexec, hacts, hvoid⟩ := hd.exec_acts hi
  have htaken := takeHead_taken hd.queue
  have hstore : (takeHead s l).store = s.store := by rw [htaken.frame]
  have hown := hacts.own
  rw [htaken.own] at hown
  refine ⟨t, hexec, hacts.next.trans htaken.next, ⟨?_, ?_, ?_, ?_, fun hne => ?_, ?_⟩, fun m hm => ?_, ?_, ?_, ?_⟩
  · rw [hown]
  · rw [hown]
  · rw [hown]
  · rw [hown]
  · rw [hvoid hne, htaken.own]
  · rw [hacts.frame]; exact htaken.field
  · have hother := hacts.others m hm
    rwa [htaken.others m hm] at hother
  · rw [hacts.store, hstore]
  · rw [hacts.store, hstore]
  · rw [hacts.frame, htaken.frame]

end Sys2Proof.Machine
end

section
/-! Lanes attached, detached and closed, the tick, and what a LEAVE and a SIGHT do to the count of their lane. -/

namespace Sys2Proof.Machine

/-- Settles O38, by the two branches of `laneUp`. -/
theorem laneUpAttachesAnEnabledLane : Obligations.LaneUpAttachesAnEnabledLane := by
  intro s l hr
  have hexec : exec (.laneUp l.val) s = .next (laneUp l s) := congrArg _ (takeLaneFrame_of_receives hr l laneUp)
  refine ⟨fun hm he => ⟨_, hexec, ?_⟩, fun h => ?_⟩
  · have hup : laneUp l s = withEdges s fun s =>
        s.setLane l { s.lane l with mode := .idle, queue := [], paused := false, overrun := false } := if_pos ⟨hm, he⟩
    rw [hup]
    refine ⟨State.setLane_lane_same .., fun m hne => ?_, rfl, rfl⟩
    exact (State.setLane_lane s l m _).trans (if_neg hne)
  · have hup : laneUp l s = s := by
      refine if_neg fun ⟨hm, he⟩ => ?_
      rcases h with h | h
      · exact h hm
      · exact Bool.false_ne_true (h.symm.trans he)
    rw [hexec, hup]

/-- Settles O39: `detach_spec` gives the lane, and `detach_closes` the context it owned. -/
theorem laneDownDetaches : Obligations.LaneDownDetaches := by
  intro s l hr
  have hexec : exec (.laneDown l.val) s = .next (detach s l) :=
    congrArg _ (takeLaneFrame_of_receives hr l fun l s => detach s l)
  refine ⟨fun hm => by rw [hexec, detach_of_detached hm], fun hm hcount => ⟨_, hexec, ?_⟩⟩
  obtain ⟨hlane, hfield, hnext, hframe⟩ := detach_spec hm hcount
  refine ⟨hlane, hfield, hnext, fun hn => ?_, fun g c ctx hc => detach_closes hm hc, hframe⟩
  rw [detach_notCounting hm hn]
  refine ⟨⟨by simp [laneGone, queueDropped], by simp [laneGone, queueDropped], by simp [laneGone, queueDropped]⟩,
    fun m hne => ?_⟩
  rw [laneGone_lane, if_neg hne, queueDropped_lane, if_neg hne]

theorem tickLane_running {r : Lane} {g n : Nat} (h : r.mode = .inSegment g (some n)) :
    tickLane r = { r with mode := .inSegment g (some (n - 1)) } := by
  unfold tickLane; rw [h]

theorem tickLane_stopped {r : Lane} (h : ∀ g n, r.mode ≠ .inSegment g (some n)) : tickLane r = r := by
  unfold tickLane
  split
  next g n hm => exact absurd hm (h g n)
  next => rfl

theorem held_iff (s : State) :
    held s = true ↔ s.resetPin = true ∨ ∃ sl ∈ s.requests.slots, sl.state = .inService .reset := by
  simp [held, resetInService]

/-- Settles O47, by whether the part is held in reset, and `tickLane` on each lane. -/
theorem ticksAdvanceTheClockAndTheDwellTimers : Obligations.TicksAdvanceTheClockAndTheDwellTimers := by
  intro s
  have hexec : exec .campaignClockTick s = .next (if held s then s else tick s) := rfl
  refine ⟨fun hheld => by rw [hexec, if_pos ((held_iff s).mpr hheld)], fun hpin hslots => ⟨tick s, ?_, rfl, ?_, ?_, rfl, rfl⟩⟩
  · rw [hexec, if_neg]
    rw [held_iff, hpin]
    rintro (h | ⟨sl, hsl, hstate⟩)
    · exact Bool.false_ne_true h
    · exact hslots sl hsl hstate
  all_goals
    intro l
    have hlane : (tick s).lane l = tickLane (s.lane l) := by simp [tick, State.lane]
    rw [hlane]
  · exact fun g n => tickLane_running
  · exact tickLane_stopped

end Sys2Proof.Machine
end

section
/-! The closes of R37 to R41: a LEAVE, an expired dwell timer, and CLOSE_SEGMENT. -/

namespace Sys2Proof.Machine

section
variable {s t u v : State} {l : Fin 8} {rest : List Entry} {before after : List Slot} {sl : Slot}

/-! ### What a drain leaves of a count -/

theorem HeadTaken.mode (h : HeadTaken s v l rest) : (v.lane l).mode = (s.lane l).mode := by rw [h.own]

theorem HeadTaken.counts (h : HeadTaken s v l rest) : CountsStay s v := by rw [h.frame]; exact ⟨rfl, rfl, rfl⟩

theorem HeadTaken.findq (h : HeadTaken s v l rest) : v.findq = s.findq := by rw [h.frame]

theorem HeadTaken.notCounting (h : HeadTaken s v l rest) (hn : NotCounting s l) : NotCounting v l := by
  intro g d; rw [h.mode]; exact hn g d

theorem HeadTaken.countsIn {g : Nat} {c : Fin 16} {ctx : Context} (h : HeadTaken s v l rest) (hc : CountsIn s l g c ctx) :
    CountsIn v l g c ctx := hc.congr h.mode h.counts.1 h.counts.2.1

/-- A close after the drain is a close from before it. -/
theorem HeadTaken.closes {c : Fin 16} {ctx : Context} {cause : CloseCause} (h : HeadTaken s v l rest)
    (hc : Closes v t c ctx l cause) : Closes s t c ctx l cause :=
  hc.congr h.counts.1.symm h.counts.2.1.symm h.counts.2.2.symm (fun m hm => (h.others m hm).symm) rfl rfl rfl fun _ _ => rfl

/-! ### LEAVE (R37) -/

/-- A lane in no segment has no context that a gap mark could close (R38). -/
theorem applyGap_of_notCounting (h : NotCounting s l) (gap : Bool) : applyGap s l gap = s :=
  if_neg (by rw [notCounting_iff.mp h]; simp)

theorem actLeave_of_notCounting (h : NotCounting s l) : actLeave s l = s.setMode l .idle :=
  if_neg (by rw [notCounting_iff.mp h]; simp)

theorem actLeave_of_countsIn {g : Nat} {c : Fin 16} {ctx : Context} (h : CountsIn s l g c ctx) :
    actLeave s l = closeLane s l .leave .idle :=
  if_pos (by rw [h.currentSegment]; rfl)

theorem notCounting_of_mode {m : LaneMode} (h : (s.lane l).mode = m) (hm : currentSegment m = none) : NotCounting s l :=
  notCounting_iff.mpr (h ▸ hm)

/-! ### The dwell timer and CLOSE_SEGMENT (R40, R41, R80) -/

theorem exec_dwellTimeout_due {g : Nat} (h : (s.lane l).mode = .inSegment g (some 0)) :
    exec (.dwellTimeout l) s = .next (closeLane s l .dwellTimeout .inVoid) := by
  change execDwellTimeout l s = _
  simp only [execDwellTimeout, h]

theorem exec_dwellTimeout_notDue (h : ∀ g, (s.lane l).mode ≠ .inSegment g (some 0)) :
    exec (.dwellTimeout l) s = .next s := by
  change execDwellTimeout l s = _
  unfold execDwellTimeout
  split
  next g hm => exact absurd hm (h g)
  next => rfl

theorem Waiting.exec_closeSegment {g : Nat} (hw : Waiting s before sl after (.closeSegment g)) :
    exec .closeSegment s = .next (serveNow s (closeSegment g)) := by
  change execCloseSegment s = _
  simp only [execCloseSegment, hw.next]

theorem closeSegment_bad {g : Nat} (h : 2048 ≤ g) : closeSegment g s = (s, { status := .badArgument }) := if_pos h

theorem countingContext_eq_some {g : Nat} {c : Fin 16} : countingContext s g = some c ↔ countsIn s g c := by
  unfold countingContext countsIn
  cases s.segment g with
  | none => simp
  | some r => cases hp : r.phase <;> simp [hp]

theorem countingContext_eq_none {g : Nat} (h : ∀ c, ¬ countsIn s g c) : countingContext s g = none :=
  Option.eq_none_iff_forall_ne_some.mpr fun c hc => h c (countingContext_eq_some.mp hc)

theorem closeSegment_wrongState {g : Nat} (hg : g < 2048) (h : ∀ c, ¬ countsIn s g c) :
    closeSegment g s = (s, { status := .wrongState }) := by
  unfold closeSegment
  rw [if_neg (Nat.not_le.mpr hg), countingContext_eq_none h]

theorem CountsIn.closeLane_eq {g : Nat} {c : Fin 16} {ctx : Context} (h : CountsIn s l g c ctx) (cause : CloseCause)
    (m : LaneMode) : closeLane s l cause m = (closeContext s c cause).setMode l m := by
  unfold closeLane
  rw [h.laneContext]

/-- The state and the answer of a CLOSE_SEGMENT that closes a lane's context (R80). -/
theorem closeSegment_closes {g : Nat} {c : Fin 16} {ctx : Context} (hg : g < 2048) (h : CountsIn s l g c ctx) :
    closeSegment g s = (closeLane s l .request .inVoid,
      { status := .ok
        body := .closed c ctx.observations.length ctx.truncated
          (segmentCode ((closeLane s l .request .inVoid).segment g)) }) := by
  have hcount : countingContext s g = some c := countingContext_eq_some.mpr (h.segment ▸ h.owned.counting)
  unfold closeSegment
  rw [if_neg (Nat.not_le.mpr hg), hcount]
  dsimp only
  rw [h.owned.context]
  dsimp only
  rw [h.owned.phase, h.closeLane_eq]

end

/-- Settles O46: each of the three closes is `closeLane`, whose effect `closeLane_spec` says. -/
theorem closesEndTheCountOfALane : Obligations.ClosesEndTheCountOfALane := by
  refine ⟨fun s l gap rest hd => ?_, fun s l => exec_dwellTimeout_notDue, fun s l g c ctx hm hc => ?_,
    fun s before after sl g hw => ⟨fun hg => ?_, fun hg hnone => ?_, fun c ctx l hg hc => ?_⟩⟩
  · have htaken := takeHead_taken hd.queue
    refine ⟨fun hn => ?_, fun g c ctx hc => ?_⟩
    · have hleave := actLeave_of_notCounting (htaken.notCounting hn)
      have hmode (m : Fin 8) := State.setMode_lane (takeHead s l) l m .idle
      have hidle : (((takeHead s l).setMode l .idle).lane l).mode = .idle := by rw [hmode, if_pos rfl]
      refine ⟨_, hd.exec_leave, ?_⟩
      rw [hleave, applyGap_of_notCounting (notCounting_of_mode hidle rfl)]
      refine ⟨hidle, ?_, htaken.counts, htaken.findq, fun m hne => ?_⟩
      · rw [hmode, if_pos rfl, htaken.own]
      · rw [hmode, if_neg hne, htaken.others m hne]
    · have hcount := htaken.countsIn hc
      obtain ⟨hcloses, hlane, -, hframe⟩ := closeLane_spec _ l g c ctx .leave .idle hcount LaneMode.noConfusion
      have hidle : ((closeLane (takeHead s l) l .leave .idle).lane l).mode = .idle := by rw [hlane]
      refine ⟨_, hd.exec_leave, ?_⟩
      rw [actLeave_of_countsIn hcount, applyGap_of_notCounting (notCounting_of_mode hidle rfl)]
      refine ⟨hidle, ?_, htaken.closes hcloses, ?_⟩
      · rw [hlane, htaken.own]
      · rw [hframe]; exact htaken.findq
  · obtain ⟨hcloses, hlane, hnext, hframe⟩ := closeLane_spec s l g c ctx .dwellTimeout .inVoid hc LaneMode.noConfusion
    exact ⟨_, exec_dwellTimeout_due hm, hlane, hcloses, hnext, by rw [hframe]⟩
  · exact ⟨_, hw.exec_closeSegment, hw.only _ _ (closeSegment_bad hg)⟩
  · exact ⟨_, hw.exec_closeSegment, hw.only _ _ (closeSegment_wrongState hg hnone)⟩
  · have hcount : CountsIn (served s before sl after) l g c ctx := hc.congr rfl rfl rfl
    obtain ⟨hcloses, hlane, hnext, hframe⟩ :=
      closeLane_spec _ l g c ctx .request .inVoid hcount LaneMode.noConfusion
    obtain ⟨hreply, hstate⟩ := hw.answers (closeSegment_closes hg hcount) (by rw [hframe])
    refine ⟨_, hw.exec_closeSegment, ?_, ?_, ?_, ?_, ?_⟩
    · rw [hstate]; exact hreply
    · rw [hstate]; exact hlane
    · exact hcloses.congr rfl rfl rfl (fun _ _ => rfl) (by rw [hstate]) (by rw [hstate]) (by rw [hstate])
        fun _ _ => by rw [hstate]; rfl
    · rw [hstate]; exact hnext
    · rw [hstate, hframe]; rfl

end Sys2Proof.Machine
end

section
/-! Admission of a drained SIGHT (R70 to R75), and the gap mark after it (R38). -/

namespace Sys2Proof.Machine

section
variable {s t u v : State} {l : Fin 8} {c : Fin 16} {ctx : Context} {tag : Tag} {rssi : Int} {position : Option Nat}
  {arrival : Time}

/-! ### The context after an admission -/

theorem contribution_eq (knots : Vector (BitVec 16) 17) (rssi : Int) (position : Option Nat) :
    contribution knots rssi position =
      (if position.isSome then weight knots rssi else 0, weight knots rssi * position.getD 0) := by
  cases position <;> rfl

theorem mergeSighting_eq (knots : Vector (BitVec 16) 17) (o : Observation) (rssi : Int) (position : Option Nat)
    (arrival : Time) : mergeSighting knots o rssi position arrival =
      { o with
        count := min 65535 (o.count + 1)
        w := o.w + if o.count < 65535 ∧ position.isSome then weight knots rssi else 0
        p := o.p + if o.count < 65535 then weight knots rssi * position.getD 0 else 0
        peak := max o.peak rssi, lastTime := arrival } := by
  unfold mergeSighting
  rw [contribution_eq]
  by_cases h : o.count < 65535 <;> simp [h, Config.countMax, satAdd]

/-- A sighting whose tag has an observation is merged into it (R71). -/
theorem sighted_merged (s : State) (h : ∃ o ∈ ctx.observations, o.tag = tag) :
    sighted s ctx tag rssi position arrival =
      { ctx with observations := mergeInto s.weights tag rssi position arrival ctx.observations } := by
  unfold sighted mergeInto
  rw [if_pos h]
  refine congrArg (fun x => { ctx with observations := x }) (List.map_congr_left fun o _ => ?_)
  by_cases ho : o.tag = tag
  · rw [if_pos ho, if_neg (not_not_intro ho), mergeSighting_eq]
  · rw [if_neg ho, if_pos ho]

/-- The context of an admission, replaced by what `sighted` says it becomes. -/
structure Admitted (s u : State) (c : Fin 16) (ctx : Context) (l : Fin 8) (tag : Tag) (rssi : Int)
    (position : Option Nat) (arrival : Time) : Prop where
  context : ∀ d, u.context d = if d = c then some (sighted s ctx tag rssi position arrival) else s.context d
  forms : Forms s ctx tag → u.pool.freeSlots + 1 = s.pool.freeSlots
  joins : ¬ Forms s ctx tag → u.pool.freeSlots = s.pool.freeSlots
  pushed : PushedIfAny s u (sightFinding s ctx l tag rssi position arrival)

/-- A discard keeps the observation slots, and its finding, if it is the first, is pushed (R74, R75). -/
theorem discard_context (s : State) (c d : Fin 16) (new : Option Context) (first : Prop) [Decidable first] (f : Finding) :
    let u := if first then pushOther (s.setContext c new) f else s.setContext c new
    u.context d = (if d = c then new else s.context d) ∧ u.pool.freeSlots = s.pool.freeSlots ∧
      PushedIfAny s u (if first then some f else none) := by
  have hpool : (pushOther (s.setContext c new) f).pool = (s.setContext c new).pool := by rw [pushOther_frame]
  rw [← State.setContext_context]
  by_cases h : first
  · simp only [if_pos h]
    exact ⟨by unfold State.context; rw [hpool], by rw [hpool]; rfl, (pushOther_pushed (s.setContext c new) f).of_findq rfl rfl⟩
  · simp only [if_neg h]
    exact ⟨trivial, rfl, rfl⟩

/-- The observation formed takes a free slot (R72), and FIRST_SIGHT is pushed when enabled (R73). -/
theorem formObservation_admitted (h : Forms s ctx tag) :
    Admitted s (formObservation s l c ctx tag rssi position arrival) c ctx l tag rssi position arrival := by
  have hnot : ¬ ∃ o ∈ ctx.observations, o.tag = tag := fun ⟨o, ho, ht⟩ => h.1 o ho ht
  have hcap := Nat.not_le.mpr h.2.1
  let form : State → State := fun s =>
    let s := s.setContext c (some { ctx with
      observations := ctx.observations ++ [newObservation s tag rssi position arrival] })
    { s with pool := { s.pool with freeSlots := s.pool.freeSlots - 1 } }
  let f := firstSightFinding ctx.segment l (newObservation s tag rssi position arrival) position
  have hform : formObservation s l c ctx tag rssi position arrival =
      if firstSightEmit s.opts then pushOther (withEdges s form) f else withEdges s form := rfl
  have hpool : (formObservation s l c ctx tag rssi position arrival).pool = (form s).pool := by
    rw [hform]; split
    · rw [pushOther_frame]; rfl
    · rfl
  have hsighted : sighted s ctx tag rssi position arrival = { ctx with
      observations := ctx.observations ++ [newObservation s tag rssi position arrival] } := by
    unfold sighted newObservation
    rw [if_neg hnot, if_neg hcap, if_neg h.2.2, contribution_eq]
  refine ⟨fun d => ?_, fun _ => ?_, absurd h, ?_⟩
  · rw [hsighted, ← State.setContext_context]
    unfold State.context; rw [hpool]
  · rw [hpool]
    exact Nat.succ_pred_eq_of_pos (Nat.pos_of_ne_zero h.2.2)
  · unfold sightFinding
    rw [if_neg hnot, if_neg hcap, if_neg h.2.2, hform]
    by_cases hemit : s.opts.general.getLsbD 0 = true
    · rw [if_pos hemit, if_pos (show firstSightEmit s.opts = true from hemit)]
      exact (pushOther_pushed (withEdges s form) f).of_findq rfl rfl
    · rw [if_neg hemit, if_neg (show ¬ firstSightEmit s.opts = true from hemit)]
      rfl

/-- An admission in the order of the checks of R70. -/
theorem admitSighting_admitted (s : State) (l : Fin 8) (c : Fin 16) (ctx : Context) (tag : Tag) (rssi : Int)
    (position : Option Nat) (arrival : Time) :
    Admitted s (admitSighting s l c ctx tag rssi position arrival) c ctx l tag rssi position arrival := by
  have hany : (ctx.observations.any fun o => decide (o.tag = tag)) = true ↔ ∃ o ∈ ctx.observations, o.tag = tag := by simp
  unfold admitSighting
  split
  next h =>
    obtain ⟨o, ho, ht⟩ := hany.mp h
    refine ⟨fun d => ?_, fun hf => absurd ht (hf.1 o ho), fun _ => rfl, ?_⟩
    · rw [State.setContext_context, sighted_merged s ⟨o, ho, ht⟩]
    · rw [sightFinding, if_pos ⟨o, ho, ht⟩]; rfl
  next h =>
    have hnot : ¬ ∃ o ∈ ctx.observations, o.tag = tag := fun hseen => h (hany.mpr hseen)
    split
    next hcap =>
      have hd (d : Fin 16) := discard_context s c d
        (some { ctx with
          capDiscards := satAdd Config.countMax ctx.capDiscards 1
          truncated := ctx.truncated || decide (ctx.capDiscards = 0) })
        (ctx.capDiscards = 0) (discardFinding .contextFull ctx.segment l tag arrival)
      refine ⟨fun d => ?_, fun hf => absurd hcap (Nat.not_le.mpr hf.2.1), fun _ => (hd c).2.1, ?_⟩
      · rw [sighted, if_neg hnot, if_pos hcap]; exact (hd d).1
      · rw [sightFinding, if_neg hnot, if_pos hcap]; exact (hd c).2.2
    next hcap =>
      split
      next hpool =>
        have hd (d : Fin 16) := discard_context s c d
          (some { ctx with
            poolDiscards := satAdd Config.countMax ctx.poolDiscards 1
            truncated := ctx.truncated || decide (ctx.poolDiscards = 0) })
          (ctx.poolDiscards = 0) (discardFinding .poolExhausted ctx.segment l tag arrival)
        refine ⟨fun d => ?_, fun hf => absurd hpool hf.2.2, fun _ => (hd c).2.1, ?_⟩
        · rw [sighted, if_neg hnot, if_neg hcap, if_pos hpool]; exact (hd d).1
        · rw [sightFinding, if_neg hnot, if_neg hcap, if_pos hpool]; exact (hd c).2.2
      next hpool =>
        exact formObservation_admitted ⟨fun o ho ht => hnot ⟨o, ho, ht⟩, Nat.not_le.mp hcap, hpool⟩

/-- What an admission looks at beside its context: the knots, the free slots and the Tag Index. -/
theorem sighted_congr (hweights : v.weights = s.weights) (hpool : v.pool = s.pool) (hstore : v.store = s.store) :
    sighted v ctx tag rssi position arrival = sighted s ctx tag rssi position arrival := by
  unfold sighted State.lookup; rw [hweights, hpool, hstore]

theorem sightFinding_congr (hopts : v.opts = s.opts) (hpool : v.pool = s.pool) (hstore : v.store = s.store) :
    sightFinding v ctx l tag rssi position arrival = sightFinding s ctx l tag rssi position arrival := by
  unfold sightFinding State.lookup; rw [hopts, hpool, hstore]

theorem sighted_fields : (sighted s ctx tag rssi position arrival).segment = ctx.segment ∧
    (sighted s ctx tag rssi position arrival).phase = ctx.phase ∧
    (sighted s ctx tag rssi position arrival).prior = ctx.prior := by
  unfold sighted
  dsimp only
  split
  · exact ⟨rfl, rfl, rfl⟩
  · split
    · exact ⟨rfl, rfl, rfl⟩
    · split <;> exact ⟨rfl, rfl, rfl⟩

/-- An admission found the same from a state with the same knots, options, pool and store. -/
theorem Admitted.congr (h : Admitted v u c ctx l tag rssi position arrival) (hweights : v.weights = s.weights)
    (hopts : v.opts = s.opts) (hpool : v.pool = s.pool) (hstore : v.store = s.store) (hfindq : v.findq = s.findq) :
    Admitted s u c ctx l tag rssi position arrival := by
  have hforms : Forms v ctx tag ↔ Forms s ctx tag := by unfold Forms; rw [hpool]
  have hcontext (d : Fin 16) : v.context d = s.context d := by unfold State.context; rw [hpool]
  refine ⟨fun d => ?_, fun hf => ?_, fun hf => ?_, ?_⟩
  · rw [h.context, sighted_congr hweights hpool hstore, hcontext]
  · rw [h.forms (hforms.mpr hf), hpool]
  · rw [h.joins (mt hforms.mp hf), hpool]
  · rw [← sightFinding_congr hopts hpool hstore]
    exact h.pushed.of_findq hfindq.symm rfl

/-! ### A SIGHT acts -/

/-- A SIGHT of a lane in no segment is a void sighting (R36). -/
def voidSighted (s : State) (l : Fin 8) : State :=
  s.setLane l { s.lane l with voidTally := raised (s.lane l).voidTally 1 }

theorem actSight_of_notCounting (h : NotCounting s l) : actSight s l tag rssi position arrival = voidSighted s l := by
  unfold actSight
  rw [notCounting_iff.mp h]
  rfl

theorem voidSighted_lane (s : State) (l m : Fin 8) : (voidSighted s l).lane m =
    if m = l then { s.lane l with voidTally := raised (s.lane l).voidTally 1 } else s.lane m := State.setLane_lane ..

/-- A SIGHT of a counting lane is admitted to its context, and the dwell timer restarts (R36, R39). -/
theorem actSight_of_countsIn {g : Nat} (h : CountsIn s l g c ctx) : actSight s l tag rssi position arrival =
    (admitSighting s l c ctx tag rssi position arrival).setMode l (restartDwell s.opts l (s.lane l).mode) := by
  have hcount : countingContext s g = some c := countingContext_eq_some.mpr (h.segment ▸ h.owned.counting)
  unfold actSight
  rw [h.currentSegment]
  dsimp only
  rw [hcount]
  dsimp only
  rw [h.owned.context]

theorem restartDwell_inSegment (o : Options) {m : LaneMode} {g : Nat} {timer : Option Nat}
    (h : m = .inSegment g timer) : restartDwell o l m = .inSegment g (dwellAfter o l timer) := by
  rw [h]; rfl

/-- In u a SIGHT has been admitted from s, and the dwell timer restarted. -/
structure Sights (s u : State) (c : Fin 16) (ctx : Context) (l : Fin 8) (tag : Tag) (rssi : Int)
    (position : Option Nat) (arrival : Time) : Prop extends Admitted s u c ctx l tag rssi position arrival where
  mode : (u.lane l).mode = restartDwell s.opts l (s.lane l).mode
  void : (u.lane l).voidTally = (s.lane l).voidTally
  others : OtherLanes s u l
  store : u.store = s.store
  settle : u.settle = s.settle

theorem actSight_sights {g : Nat} {rest : List Entry} (hv : HeadTaken s v l rest) (h : CountsIn v l g c ctx) :
    Sights s (actSight v l tag rssi position arrival) c ctx l tag rssi position arrival := by
  have hact := actSight_of_countsIn (tag := tag) (rssi := rssi) (position := position) (arrival := arrival) h
  have hframe := admitSighting_frame v l c ctx tag rssi position arrival
  have hlane (m : Fin 8) : (admitSighting v l c ctx tag rssi position arrival).lane m = v.lane m :=
    State.lane_eq_of_lanes (by rw [hframe]) m
  have hadmitted : Admitted s (admitSighting v l c ctx tag rssi position arrival) c ctx l tag rssi position arrival :=
    (admitSighting_admitted v l c ctx tag rssi position arrival).congr (by rw [hv.frame]) (by rw [hv.frame])
      hv.counts.2.1 hv.counts.1 hv.findq
  have hopts : v.opts = s.opts := by rw [hv.frame]
  rw [hact]
  refine ⟨⟨hadmitted.context, hadmitted.forms, hadmitted.joins, hadmitted.pushed⟩, ?_, ?_, fun m hm => ?_, ?_, ?_⟩
  · rw [State.setMode_lane, if_pos rfl, hv.mode, hopts]
  · rw [State.setMode_lane, if_pos rfl, hlane, hv.own]
  · rw [State.setMode_lane, if_neg hm, hlane, hv.others m hm]
  · rw [State.setMode_store, hframe]; exact hv.counts.1
  · rw [State.setMode_settle, hframe]; exact hv.counts.2.2

theorem Sights.countsIn {g : Nat} (hu : Sights s u c ctx l tag rssi position arrival) (h : CountsIn s l g c ctx) :
    CountsIn u l g c (sighted s ctx tag rssi position arrival) := by
  obtain ⟨⟨timer, hmode⟩, ⟨-, hphase, r, hr, hp⟩, hg⟩ := h
  obtain ⟨hsegment, hphase', -⟩ := @sighted_fields s ctx tag rssi position arrival
  refine ⟨⟨_, hu.mode.trans (restartDwell_inSegment s.opts hmode)⟩, ⟨?_, hphase'.trans hphase, r, ?_, hp⟩, hsegment.trans hg⟩
  · rw [hu.context, if_pos rfl]
  · rw [hsegment]
    unfold State.segment
    rw [hu.store]
    exact hr

end

/-- Settles O45: a SIGHT of a counting lane is admitted as `Admitted` says, and its gap mark closes the context it leaves. -/
theorem sightsAreAdmittedToTheirContext : Obligations.SightsAreAdmittedToTheirContext := by
  intro s l tag rssi position arrival gap rest hd
  have htaken := takeHead_taken hd.queue
  refine ⟨fun hn => ?_, fun g c ctx hc => ?_⟩
  · have hvoid : NotCounting (voidSighted (takeHead s l) l) l := by
      refine notCounting_of_mode (m := (s.lane l).mode) ?_ (notCounting_iff.mp hn)
      rw [voidSighted_lane, if_pos rfl]; exact htaken.mode
    refine ⟨_, hd.exec_sight, ?_⟩
    rw [actSight_of_notCounting (htaken.notCounting hn), applyGap_of_notCounting hvoid]
    refine ⟨?_, ?_, htaken.counts, htaken.findq, fun m hne => ?_⟩
    · rw [voidSighted_lane, if_pos rfl, htaken.own]
    · rw [voidSighted_lane, if_pos rfl]; exact htaken.mode
    · rw [voidSighted_lane, if_neg hne, htaken.others m hne]
  · have hsights := actSight_sights (tag := tag) (rssi := rssi) (position := position) (arrival := arrival) htaken
      (htaken.countsIn hc)
    refine ⟨_, hd.exec_sight, ?_⟩
    generalize actSight (takeHead s l) l tag rssi position arrival = u at hsights
    cases gap with
    | false =>
      have hgap : applyGap u l false = u := if_neg (by simp)
      rw [hgap]
      refine ⟨hsights.void, hsights.pushed, hsights.forms, hsights.joins, fun d hne => ?_, fun _ => ⟨fun timer hm => ?_,
        hsights.store, hsights.settle, ?_⟩, fun _ => hsights.others, nofun⟩
      · rw [hsights.context, if_neg hne]
      · rw [hsights.mode, restartDwell_inSegment _ hm]
      · rw [hsights.context, if_pos rfl]
    | true =>
      have hcount := hsights.countsIn hc
      have hgap : applyGap u l true = closeLane u l .markerLost .inVoid :=
        if_pos ⟨rfl, by rw [hcount.currentSegment]; rfl⟩
      obtain ⟨hcloses, hlane, -, hframe⟩ := closeLane_spec u l g c _ .markerLost .inVoid hcount LaneMode.noConfusion
      obtain ⟨hsegment, -, hprior⟩ := @sighted_fields s ctx tag rssi position arrival
      have hseg (h : Nat) : u.segment h = s.segment h := by unfold State.segment; rw [hsights.store]
      rw [hgap]
      refine ⟨?_, ?_, fun hf => ?_, fun hf => ?_, fun d hne => ?_, nofun, nofun, fun _ => ⟨?_, fun h hne => ?_, ?_,
        fun hnone => ?_, fun hsome => ?_⟩⟩
      · rw [hlane]; exact hsights.void
      · exact hsights.pushed.of_findq rfl (by rw [hframe])
      · rw [hcloses.slots]; exact hsights.forms hf
      · rw [hcloses.slots]; exact hsights.joins hf
      · rw [hcloses.contexts d hne, hsights.context, if_neg hne]
      · rw [hlane]
      · rw [hcloses.segments h (by rwa [hsegment, hc.segment]), hseg]
      · rw [hcloses.store, hsights.store]
      · obtain ⟨hcontext, hsettle, hphase⟩ := hcloses.empty hnone
        rw [hsegment, hc.segment, hprior, hseg] at hphase
        refine ⟨hcontext, hsettle.trans hsights.settle, hphase, fun m hne => ?_⟩
        rw [hcloses.others m hne, if_pos hnone, hsights.others m hne]
      · obtain ⟨hcontext, hqueue, hengine, hphase⟩ := hcloses.handOff hsome
        rw [hsegment, hc.segment] at hqueue hphase
        rw [hsights.settle] at hqueue hengine
        rw [hseg] at hphase
        refine ⟨hcontext, hphase, hqueue, hengine, fun m hne => ?_⟩
        rw [hcloses.others m hne, if_neg hsome, hsights.others m hne]

end Sys2Proof.Machine
end

section
/-! What an ENTER does (R31 to R33): from the state its evaluation begins with, to a context opened, a refusal, or a wait. -/

namespace Sys2Proof.Machine

section
variable {s t u v : State} {i : Instr} {l : Fin 8} {rel : Nat} {gap : Bool}

/-! ### Service by the arbiter (R30) -/

/-- In v the arbiter has served lane l of s, and nothing has acted yet. -/
structure Served (s v : State) (l : Fin 8) : Prop where
  own : v.lane l = { s.lane l with
    queue := (v.lane l).queue, paused := (v.lane l).paused, overrun := (v.lane l).overrun }
  others : OtherLanes s v l
  next : v.lanes.next = l + 1
  port : v.field = { s.field with signals := v.field.signals }
  signals : ∀ m : Fin 8, m ≠ l → v.field.signals[m.val] = s.field.signals[m.val]
  frame : v = { s with lanes := v.lanes, field := v.field, notices := v.notices }

theorem HeadTaken.served {rest : List Entry} (h : HeadTaken s v l rest) : Served s v l where
  own := by rw [h.own]
  others := h.others
  next := h.next
  port := by rw [h.field]
  signals m hm := by
    rw [h.field]
    exact Vector.getElem_set_ne l.isLt m.isLt fun hv => hm (Fin.ext hv.symm)
  frame := h.frame

theorem servedLane_served (s : State) (l : Fin 8) : Served s (servedLane s l) l :=
  ⟨rfl, fun _ _ => rfl, rfl, rfl, fun _ _ => rfl, rfl⟩

theorem Served.mode (h : Served s v l) : (v.lane l).mode = (s.lane l).mode := by rw [h.own]

/-- What an ENTER evaluated after the service leaves as it was. -/
theorem Served.keeps (h : Served s v l) (k : ActsSightless v t l)
    (hpending : i = .reevaluatePendingEnter → v.lane l = s.lane l ∧ v.field = s.field) : EnterKeeps s t i l := by
  have hfield : t.field = v.field := by rw [k.frame]
  have hown : t.lane l = { v.lane l with mode := (t.lane l).mode } := by
    rw [k.own, k.void]
  refine ⟨k.next.trans h.next, ?_, fun hi => ⟨?_, ?_⟩, ?_, fun m hm => ?_, ?_, ?_⟩
  · rw [hown, h.own]
  · rw [hown, (hpending hi).1]
  · rw [hfield, (hpending hi).2]
  · rw [hfield]; exact h.port
  · rw [hfield]; exact h.signals m hm
  · rw [k.store, h.frame]
  · rw [k.frame, h.frame]

theorem closeForEnter_of_notCounting (h : NotCounting s l) : closeForEnter s l = s :=
  if_neg (by rw [notCounting_iff.mp h]; simp)

theorem closeForEnter_of_countsIn {g : Nat} {c : Fin 16} {ctx : Context} (h : CountsIn s l g c ctx) :
    closeForEnter s l = closeLane s l .newEnter .idle :=
  if_pos (by rw [h.currentSegment]; rfl)

/-- An ENTER drained and one pending are evaluated alike; a pending one's lane owns no context to close (R30, R31, R34). -/
theorem EnterServed.exec (h : EnterServed s i l rel gap) : ∃ v, Served s v l ∧
    exec i s = .next (evalEnter (closeForEnter v l) l rel gap) ∧
    (i = .reevaluatePendingEnter → v.lane l = s.lane l ∧ v.field = s.field) := by
  rcases h with ⟨rfl, rest, hd⟩ | ⟨rfl, hnext, hmode⟩
  · exact ⟨takeHead s l, (takeHead_taken hd.queue).served, hd.exec_enter, nofun⟩
  · refine ⟨servedLane s l, servedLane_served s l, ?_, fun _ => ⟨rfl, rfl⟩⟩
    have hnot : NotCounting (servedLane s l) l := notCounting_of_mode (m := .waiting rel gap true) hmode rfl
    rw [closeForEnter_of_notCounting hnot]
    change execReevaluatePendingEnter s = _
    simp only [execReevaluatePendingEnter, hnext.choice, hmode]

/-! ### The state an ENTER is evaluated from (R31) -/

/-- v differs from u in lane l's queue and flags, the pointer, the Field Port and the notices at most: an ENTER is evaluated
alike from both. -/
structure SameCounts (u v : State) (l : Fin 8) : Prop where
  own : v.lane l = { u.lane l with
    queue := (v.lane l).queue, paused := (v.lane l).paused, overrun := (v.lane l).overrun }
  others : OtherLanes u v l
  counts : CountsStay u v
  findq : v.findq = u.findq
  opts : v.opts = u.opts
  clock : v.clock = u.clock

theorem Served.sameCounts (h : Served s v l) : SameCounts s v l := by
  refine ⟨h.own, h.others, ⟨?_, ?_, ?_⟩, ?_, ?_, ?_⟩ <;> rw [h.frame]

/-- The state with the counts of v, and with its lanes, but for lane l, which is IDLE as it was in s. -/
def entryState (s v : State) (l : Fin 8) : State :=
  { s with store := v.store, pool := v.pool, settle := v.settle,
           lanes := (v.setLane l { s.lane l with mode := .idle }).lanes }

theorem entryState_lane (s v : State) (l m : Fin 8) :
    (entryState s v l).lane m = if m = l then { s.lane l with mode := .idle } else v.lane m := State.setLane_lane ..

/-- The lane's context is closed first, and the service itself does not matter to what is evaluated (R31). -/
theorem Served.entersFrom (h : Served s v l) (hcount : NotCounting s l ∨ ∃ g c ctx, CountsIn s l g c ctx) :
    ∃ u, EntersFrom s u l ∧ SameCounts u (closeForEnter v l) l := by
  have hsame := h.sameCounts
  rcases hcount with hn | ⟨g, c, ctx, hc⟩
  · have hnv : NotCounting v l := notCounting_iff.mpr (by rw [h.mode]; exact notCounting_iff.mp hn)
    exact ⟨s, .inl ⟨hn, rfl⟩, by rw [closeForEnter_of_notCounting hnv]; exact hsame⟩
  · have hcv : CountsIn v l g c ctx := hc.congr h.mode hsame.counts.1 hsame.counts.2.1
    obtain ⟨hcloses, hlane, -, hframe⟩ := closeLane_spec v l g c ctx .newEnter .idle hcv LaneMode.noConfusion
    rw [closeForEnter_of_countsIn hcv]
    generalize closeLane v l .newEnter .idle = w at hcloses hlane hframe
    have hlanes (m : Fin 8) := entryState_lane s w l m
    refine ⟨entryState s w l, .inr ⟨g, c, ctx, hc, ?_, ?_, rfl⟩, ?_, fun m hm => ?_, ⟨rfl, rfl, rfl⟩, ?_, ?_, ?_⟩
    · exact hcloses.congr hsame.counts.1.symm hsame.counts.2.1.symm hsame.counts.2.2.symm
        (fun m hm => (h.others m hm).symm) rfl rfl rfl fun m hm => by rw [hlanes, if_neg hm]
    · rw [hlanes, if_pos rfl]
    · rw [hlanes, if_pos rfl, hlane, h.own]
    · rw [hlanes, if_neg hm]
    · rw [hframe]; exact hsame.findq
    · rw [hframe]; exact hsame.opts
    · rw [hframe]; exact hsame.clock

theorem SameCounts.segment (h : SameCounts u v l) (g : Nat) : v.segment g = u.segment g := by
  unfold State.segment; rw [h.counts.1]

theorem SameCounts.context (h : SameCounts u v l) (c : Fin 16) : v.context c = u.context c := by
  unfold State.context; rw [h.counts.2.1]

theorem SameCounts.window (h : SameCounts u v l) :
    (v.lane l).base = (u.lane l).base ∧ (v.lane l).limit = (u.lane l).limit := by
  rw [h.own]; exact ⟨rfl, rfl⟩

theorem SameCounts.freeContext (h : SameCounts u v l) : freeContext v = freeContext u := by
  unfold Machine.freeContext
  simp only [h.context]

theorem SameCounts.outcome (h : SameCounts u v l) : enterOutcome v l rel = enterOutcome u l rel := by
  unfold enterOutcome openOrWait
  dsimp only
  rw [h.window.1, h.window.2, h.segment, h.opts, h.freeContext]

/-! ### The outcome of an ENTER (R31, R32) -/

theorem mem_contextsInOrder (c : Fin 16) : c ∈ contextsInOrder := by fin_cases c <;> decide

theorem freeContext_eq_none (h : ∀ c, u.context c ≠ none) : freeContext u = none := by
  unfold freeContext
  rw [List.find?_eq_none]
  intro c _
  rw [Option.isNone_iff_eq_none]
  exact h c

/-- The context found is the lowest-numbered FREE one (R69). -/
theorem LowestFree.freeContext {c : Fin 16} (h : LowestFree u c) : freeContext u = some c := by
  have hrising : contextsInOrder.Pairwise (· < ·) := by decide
  obtain ⟨lower, higher, hsplit⟩ := List.append_of_mem (mem_contextsInOrder c)
  unfold Machine.freeContext
  rw [List.find?_eq_some_iff_append]
  refine ⟨by rw [h.1]; rfl, lower, higher, hsplit, fun d hd => ?_⟩
  rw [hsplit, List.pairwise_append] at hrising
  rw [Bool.not_eq_true', Option.isNone_eq_false_iff, Option.isSome_iff_ne_none]
  exact h.2 d (hrising.2.2 d hd c List.mem_cons_self)

/-- What the phase of the segment named makes of an ENTER within the window (R32). -/
def phaseOutcome (u : State) (g : Nat) : Phase → EnterOutcome
  | .loading _ => .notReady g
  | .counting _ => .claimConflict g
  | .settling _ => .waits
  | .ready => openOrWait u g .ready
  | .settled => if recountByLane u.opts then openOrWait u g .settled else .notReady g

theorem enterOutcome_inside {r : Segment} (hin : (u.lane l).base + rel < (u.lane l).limit)
    (hr : u.segment ((u.lane l).base + rel) = some r) :
    enterOutcome u l rel = phaseOutcome u ((u.lane l).base + rel) r.phase := by
  unfold enterOutcome
  dsimp only
  rw [if_neg (Nat.not_le.mpr hin), hr]
  dsimp only
  cases r.phase <;> rfl

/-- A countable segment is opened, or waited for (R32). -/
theorem enterOutcome_countable_eq {r : Segment} {prior : Prior} (hin : (u.lane l).base + rel < (u.lane l).limit)
    (hr : u.segment ((u.lane l).base + rel) = some r) (hc : Countable u r prior) :
    enterOutcome u l rel = openOrWait u ((u.lane l).base + rel) prior := by
  rw [enterOutcome_inside hin hr]
  rcases hc with ⟨hp, rfl⟩ | ⟨hp, hopt, rfl⟩
  · rw [hp, phaseOutcome]
  · rw [hp, phaseOutcome]
    exact if_pos hopt

theorem enterOutcome_settling {c : Fin 16} (hin : (u.lane l).base + rel < (u.lane l).limit)
    (h : settlesIn u ((u.lane l).base + rel) c) : enterOutcome u l rel = .waits := by
  obtain ⟨r, hr, hp⟩ := h
  rw [enterOutcome_inside hin hr, hp, phaseOutcome]

/-- What refuses an ENTER is its outcome's finding (R33). -/
theorem enterRefusal_eq : enterRefusal u l rel = refusalFinding u l rel (enterOutcome u l rel) := by
  have hopen (g : Nat) (p : Prior) : refusalFinding u l rel (openOrWait u g p) = none := by
    unfold openOrWait; split <;> rfl
  unfold enterRefusal
  split
  next hout =>
    have houtcome : enterOutcome u l rel = .rangeRefused := if_pos hout
    rw [houtcome]
    rfl
  next hin =>
    have hin := Nat.not_le.mp hin
    cases hr : u.segment ((u.lane l).base + rel) with
    | none =>
      have houtcome : enterOutcome u l rel = .notReady ((u.lane l).base + rel) := by
        unfold enterOutcome
        dsimp only
        rw [if_neg (Nat.not_le.mpr hin), hr]
      rw [houtcome]
      rfl
    | some r =>
      rw [enterOutcome_inside hin hr]
      cases hp : r.phase with
      | ready => simp only [Option.map_some, hp, phaseOutcome, hopen]
      | settled =>
        simp only [Option.map_some, hp, phaseOutcome]
        by_cases hopt : u.opts.general.getLsbD 1 = true
        · rw [if_pos hopt, if_pos (show recountByLane u.opts = true from hopt), hopen]
        · rw [if_neg hopt, if_neg (show ¬ recountByLane u.opts = true from hopt)]
          rfl
      | _ => simp only [Option.map_some, hp, phaseOutcome, refusalFinding]

/-! ### The outcome carried out -/

theorem evalEnter_waits (h : enterOutcome v l rel = .waits) :
    evalEnter v l rel gap = v.setMode l (.waiting rel gap false) := by
  unfold evalEnter; rw [h]

theorem evalEnter_opens {g : Nat} {c : Fin 16} {prior : Prior} (h : enterOutcome v l rel = .opens g c prior) :
    evalEnter v l rel gap = applyGap (openContext v l g c prior) l gap := by
  unfold evalEnter; rw [h]

theorem evalEnter_refused {f : Finding} (h : refusalFinding v l rel (enterOutcome v l rel) = some f) :
    evalEnter v l rel gap = (pushOther v f).setMode l .inVoid := by
  unfold evalEnter
  cases ho : enterOutcome v l rel with
  | waits => rw [ho] at h; exact nomatch h
  | opens g c prior => rw [ho] at h; exact nomatch h
  | rangeRefused => rw [ho] at h; dsimp only; rw [h]
  | claimConflict g => rw [ho] at h; dsimp only; rw [h]
  | notReady g => rw [ho] at h; dsimp only; rw [h]

/-- A context just opened is its lane's. -/
theorem openContext_countsIn {g : Nat} {c : Fin 16} {prior : Prior} {r : Segment} (hr : v.segment g = some r) :
    CountsIn (openContext v l g c prior) l g c (freshContext v l g prior) := by
  refine ⟨⟨dwellStart v.opts l, ?_⟩, ⟨?_, rfl, { r with phase := .counting c }, ?_, rfl⟩, rfl⟩
  · rw [openContext_lane, if_pos rfl]
  · rw [openContext_context, if_pos rfl]
  · rw [show (freshContext v l g prior).segment = g from rfl, openContext_segment, if_pos rfl, hr]
    rfl

theorem Countable.phase {r : Segment} {prior : Prior} (h : Countable u r prior) : r.phase = priorOf prior := by
  rcases h with ⟨hp, rfl⟩ | ⟨hp, -, rfl⟩ <;> exact hp

/-- A context opened with a gap mark is closed at once: it holds nothing, so all is as before (R34, R38, R82). -/
theorem openContext_gap {g : Nat} {c : Fin 16} {prior : Prior} {r : Segment} (hr : v.segment g = some r)
    (hphase : r.phase = priorOf prior) (hfree : v.context c = none) :
    let t := applyGap (openContext v l g c prior) l true
    (t.lane l).mode = .inVoid ∧ (∀ d, t.context d = v.context d) ∧ (∀ h, t.segment h = v.segment h) ∧
      (∀ m, m ≠ l → t.lane m = flagLane (v.lane m)) ∧ t.pool.freeSlots = v.pool.freeSlots ∧ t.settle = v.settle ∧
      t.findq = v.findq := by
  intro t
  have hcount : CountsIn (openContext v l g c prior) l g c (freshContext v l g prior) := openContext_countsIn hr
  have hgap : t = closeLane (openContext v l g c prior) l .markerLost .inVoid :=
    if_pos ⟨rfl, by rw [hcount.currentSegment]; rfl⟩
  obtain ⟨hcloses, hlane, -, hframe⟩ := closeLane_spec _ l g c _ .markerLost .inVoid hcount LaneMode.noConfusion
  rw [← hgap] at hcloses hlane hframe
  obtain ⟨hcontext, hsettle, hsegment⟩ := hcloses.empty rfl
  refine ⟨by rw [hlane], fun d => ?_, fun h => ?_, fun m hm => ?_, ?_, ?_, ?_⟩
  · by_cases hd : d = c
    · rw [hd, hcontext, hfree]
    · rw [hcloses.contexts d hd, openContext_context, if_neg hd]
  · by_cases hh : h = g
    · rw [show (freshContext v l g prior).segment = g from rfl, openContext_segment, if_pos rfl, hr] at hsegment
      rw [hh, hsegment, hr]
      exact congrArg some (by rw [show (freshContext v l g prior).prior = prior from rfl, ← hphase])
    · rw [hcloses.segments h hh, openContext_segment, if_neg hh]
  · rw [hcloses.others m hm, if_pos (show (freshContext v l g prior).observations = [] from rfl), openContext_lane, if_neg hm]
  · rw [hcloses.slots, openContext_eq]; simp
  · rw [hsettle, openContext_frame]
  · rw [hframe]; exact (congrArg State.findq (openContext_frame v l g c prior) :)

end

/-- Settles O43: an ENTER that opens leaves what `openContext` says, and with a gap mark what `openContext_gap` says. -/
theorem enterOpensTheLowestFreeContext : Obligations.EnterOpensTheLowestFreeContext := by
  intro s i l rel gap hserved hcount
  obtain ⟨v, hv, hexec, hpending⟩ := hserved.exec
  obtain ⟨u, hfrom, hsame⟩ := hv.entersFrom hcount
  have hkeeps := hv.keeps ((closeForEnter_acts v l).trans (evalEnter_acts _ l rel gap)) hpending
  have hfindq : (closeForEnter v l).findq = s.findq := by
    rcases hfrom with ⟨-, rfl⟩ | ⟨g, c, ctx, -, -, -, hu⟩
    · exact hsame.findq
    · rw [hsame.findq, hu]
  have hclock : (closeForEnter v l).clock = s.clock := by rw [(closeForEnter_acts v l).frame, hv.frame]
  have hopts : (closeForEnter v l).opts = s.opts := by rw [(closeForEnter_acts v l).frame, hv.frame]
  refine ⟨u, _, hfrom, hexec, hkeeps, fun r c prior hin hr hcountable hfree => ?_⟩
  clear hexec hkeeps
  generalize closeForEnter v l = w at hsame hfindq hclock hopts
  have hopens : enterOutcome w l rel = .opens ((u.lane l).base + rel) c prior := by
    rw [hsame.outcome, enterOutcome_countable_eq hin hr hcountable, openOrWait, hfree.freeContext]
  have hrw : w.segment ((u.lane l).base + rel) = some r := (hsame.segment _).trans hr
  rw [evalEnter_opens hopens]
  generalize (u.lane l).base + rel = g at *
  cases gap with
  | false =>
    have hgap : applyGap (openContext w l g c prior) l false = openContext w l g c prior := if_neg (by simp)
    rw [hgap]
    refine ⟨fun _ => ⟨?_, ?_, ?_, fun d hd => ?_, fun h hh => ?_⟩, nofun, fun m hm => ?_, ?_, ?_, ?_⟩
    · rw [openContext_context, if_pos rfl, freshContext, hclock]
    · rw [openContext_segment, if_pos rfl, hrw]; rfl
    · rw [openContext_lane, if_pos rfl, hopts]; rfl
    · rw [openContext_context, if_neg hd, hsame.context]
    · rw [openContext_segment, if_neg hh, hsame.segment]
    · rw [openContext_lane, if_neg hm, hsame.others m hm]; rfl
    · rw [openContext_eq]; simp [hsame.counts.2.1]
    · rw [openContext_frame]; exact hsame.counts.2.2
    · rw [openContext_frame]; exact hfindq
  | true =>
    obtain ⟨hmode, hcontext, hsegment, hothers, hslots, hsettle, hfind⟩ :=
      openContext_gap (l := l) hrw hcountable.phase ((hsame.context c).trans hfree.1)
    refine ⟨nofun, fun _ => ⟨hmode, fun d => ?_, fun h => ?_⟩, fun m hm => ?_, ?_, ?_, hfind.trans hfindq⟩
    · rw [hcontext, hsame.context]
    · rw [hsegment, hsame.segment]
    · rw [hothers m hm, hsame.others m hm]; rfl
    · rw [hslots, hsame.counts.2.1]
    · rw [hsettle, hsame.counts.2.2]

/-- Settles O44, by the outcome of the ENTER: refused with its finding, or waiting. -/
theorem enterIsRefusedOrWaits : Obligations.EnterIsRefusedOrWaits := by
  intro s i l rel gap hserved hcount
  obtain ⟨v, hv, hexec, hpending⟩ := hserved.exec
  obtain ⟨u, hfrom, hsame⟩ := hv.entersFrom hcount
  have hkeeps := hv.keeps ((closeForEnter_acts v l).trans (evalEnter_acts _ l rel gap)) hpending
  have hfindq : (closeForEnter v l).findq = s.findq := by
    rcases hfrom with ⟨-, rfl⟩ | ⟨g, c, ctx, -, -, -, hu⟩
    · exact hsame.findq
    · rw [hsame.findq, hu]
  refine ⟨u, _, hfrom, hexec, hkeeps, fun f hf => ?_, fun hin hwait => ?_⟩ <;> clear hexec hkeeps <;>
    generalize closeForEnter v l = w at hsame hfindq
  · have hrefused : refusalFinding w l rel (enterOutcome w l rel) = some f := by
      rw [hsame.outcome, ← hf, enterRefusal_eq]
      unfold refusalFinding
      rw [hsame.clock]
    rw [evalEnter_refused hrefused]
    have hlane (m : Fin 8) : ((pushOther w f).setMode l .inVoid).lane m = _ := State.setMode_lane _ l m .inVoid
    refine ⟨?_, (pushOther_pushed w f).of_findq hfindq.symm rfl, ⟨?_, ?_, ?_⟩, fun m hm => ?_⟩
    · rw [hlane, if_pos rfl]
    · rw [State.setMode_store, pushOther_frame]; exact hsame.counts.1
    · rw [State.setMode_pool, pushOther_frame]; exact hsame.counts.2.1
    · rw [State.setMode_settle, pushOther_frame]; exact hsame.counts.2.2
    · rw [hlane, if_neg hm, State.lane_eq_of_lanes (pushOther_lanes w f), hsame.others m hm]
  · have hwaits : enterOutcome w l rel = .waits := by
      rw [hsame.outcome]
      rcases hwait with ⟨c, hc⟩ | ⟨r, prior, hr, hcountable, hnone⟩
      · exact enterOutcome_settling hin hc
      · rw [enterOutcome_countable_eq hin hr hcountable, openOrWait, freeContext_eq_none hnone]
    rw [evalEnter_waits hwaits]
    refine ⟨?_, hfindq, hsame.counts, fun m hm => ?_⟩
    · rw [State.setMode_lane, if_pos rfl]
    · rw [State.setMode_lane, if_neg hm, hsame.others m hm]

end Sys2Proof.Machine
end

section
/-! Several lanes detached in increasing lane number (R26): what one detachment and the next make together. -/

namespace Sys2Proof.Machine

/-! ### What detachment needs of the bindings -/

/-- The half of the bindings (R24, R66) that says who owns an OPEN context. -/
structure OwnersOk (s : State) : Prop where
  lane : ∀ l, NotCounting s l ∨ ∃ g c ctx, CountsIn s l g c ctx
  opened : ∀ c ctx l, s.context c = some ctx → ctx.phase = .opened l →
    countsIn s ctx.segment c ∧ ∃ d, (s.lane l).mode = .inSegment ctx.segment d

theorem ClaimsOk.owners {s : State} (h : ClaimsOk s) : OwnersOk s := ⟨h.counts_or_not, h.opened⟩

section
variable {s t u : State} {gone : Fin 8 → Bool}

/-- A lane in no segment owns no OPEN context. -/
theorem OwnersOk.notCounting (h : OwnersOk s) {l : Fin 8} (hn : NotCounting s l) {c : Fin 16} {ctx : Context}
    (hc : s.context c = some ctx) : ctx.phase ≠ .opened l := by
  intro hp
  obtain ⟨-, d, hd⟩ := h.opened c ctx l hc hp
  exact hn _ _ hd

/-- A segment is counted in one context. -/
theorem OwnersOk.segment_unique (h : OwnersOk s) {c d : Fin 16} {x y : Context} {l m : Fin 8}
    (hx : s.context c = some x) (hl : x.phase = .opened l) (hy : s.context d = some y) (hm : y.phase = .opened m)
    (hseg : x.segment = y.segment) : l = m := by
  have hcd : c = d := countsIn_unique (h.opened c x l hx hl).1 (hseg ▸ (h.opened d y m hy hm).1)
  subst hcd
  obtain rfl := Option.some.inj (hx.symm.trans hy)
  exact ContextPhase.opened.inj (hl.symm.trans hm)

/-- A lane owns one context. -/
theorem OwnersOk.owner_unique (h : OwnersOk s) {l : Fin 8} {g : Nat} {c d : Fin 16} {ctx x : Context}
    (hc : CountsIn s l g c ctx) (hx : s.context d = some x) (hp : x.phase = .opened l) : d = c ∧ x = ctx := by
  obtain ⟨hcount, e, he⟩ := h.opened d x l hx hp
  obtain ⟨e', he'⟩ := hc.lane
  have hseg : x.segment = ctx.segment := by
    rw [hc.segment]; exact (LaneMode.inSegment.inj (he.symm.trans he')).1
  have hdc : d = c := countsIn_unique hcount (hseg ▸ hc.owned.counting)
  subst hdc
  exact ⟨rfl, Option.some.inj (hx.symm.trans hc.owned.context)⟩

/-- An OPEN context of a lane that stays is as it was, and so is its segment. -/
theorem Detaches.kept (h : Detaches s t gone) (hs : OwnersOk s) {c : Fin 16} {ctx : Context} {m : Fin 8}
    (hm : gone m = false) (hc : s.context c = some ctx) (hp : ctx.phase = .opened m) :
    t.context c = some ctx ∧ t.segment ctx.segment = s.segment ctx.segment := by
  constructor
  · rw [h.otherContexts c fun x k hk hx hxp => ?_, hc]
    obtain rfl := Option.some.inj (hx.symm.trans hc)
    rw [ContextPhase.opened.inj (hxp.symm.trans hp), hm] at hk
    exact Bool.false_ne_true hk
  · refine h.otherSegments _ fun d x k hk hx hxp hseg => ?_
    rw [hs.segment_unique hx hxp hc hp hseg, hm] at hk
    exact Bool.false_ne_true hk

/-- An OPEN context afterwards is one of a lane that stays. -/
theorem Detaches.context_of_opened (h : Detaches s t gone) {c : Fin 16} {ctx : Context} {m : Fin 8}
    (hc : t.context c = some ctx) (hp : ctx.phase = .opened m) : s.context c = some ctx ∧ gone m = false := by
  by_cases hgone : ∃ x k, gone k = true ∧ s.context c = some x ∧ x.phase = .opened k
  · obtain ⟨x, k, hk, hx, hxp⟩ := hgone
    rw [(h.contexts c x k hk hx hxp).1] at hc
    split at hc
    · exact nomatch hc
    · obtain rfl := Option.some.inj hc
      exact ContextPhase.noConfusion hp
  · have hsame := h.otherContexts c fun x k hk hx hxp => hgone ⟨x, k, hk, hx, hxp⟩
    rw [hsame] at hc
    exact ⟨hc, Bool.eq_false_iff.mpr fun hm => hgone ⟨ctx, m, hm, hc, hp⟩⟩

/-- A lane that is not detached keeps all but a re-evaluation flag. -/
theorem Detaches.lane_stays (h : Detaches s t gone) {l : Fin 8} (hl : gone l = false) :
    t.lane l = s.lane l ∨ t.lane l = flagLane (s.lane l) := by
  by_cases hempty : ∃ m c ctx, gone m = true ∧ s.context c = some ctx ∧ ctx.phase = .opened m ∧ ctx.observations = []
  · obtain ⟨m, c, ctx, hm, hc, hp, hob⟩ := hempty
    exact .inr (h.flagged l m c ctx hl hm hc hp hob)
  · exact .inl (h.same l (.inl hl) fun m c ctx hm hc hp hob => hempty ⟨m, c, ctx, hm, hc, hp, hob⟩)

theorem flagLane_inSegment {r : Lane} {g : Nat} {d : Option Nat} (h : (flagLane r).mode = .inSegment g d) :
    flagLane r = r := by
  obtain ⟨m, _, _, _, _, _, _, _⟩ := r
  cases m with
  | waiting rel gap flag => exact nomatch h
  | _ => rfl

theorem flagLane_detached {r : Lane} : (flagLane r).mode = .detached ↔ r.mode = .detached := by
  obtain ⟨m, _, _, _, _, _, _, _⟩ := r
  cases m <;> simp [flagLane]

/-- A lane in a segment that is not detached is as it was, and so is what it owns. -/
theorem Detaches.countsIn (h : Detaches s t gone) (hs : OwnersOk s) {l : Fin 8} (hl : gone l = false) {g : Nat}
    {c : Fin 16} {ctx : Context} (hc : CountsIn s l g c ctx) : CountsIn t l g c ctx := by
  obtain ⟨⟨d, hd⟩, ⟨hctx, hp, r, hr, hphase⟩, hseg⟩ := hc
  obtain ⟨hcontext, hsegment⟩ := h.kept hs hl hctx hp
  have hflag : flagLane (s.lane l) = s.lane l := flagLane_mode _ (by rw [hd]; rfl)
  have hlane : t.lane l = s.lane l := (h.lane_stays hl).elim id fun hf => hf.trans hflag
  exact ⟨⟨d, by rw [hlane]; exact hd⟩, ⟨hcontext, hp, r, hsegment.trans hr, hphase⟩, hseg⟩

theorem Detaches.owners (h : Detaches s t gone) (hs : OwnersOk s) : OwnersOk t := by
  constructor
  · intro l
    cases hl : gone l with
    | true =>
      refine .inl fun g d hd => ?_
      by_cases hm : (s.lane l).mode = .detached
      · rw [h.stays l hl hm, hm] at hd; exact nomatch hd
      · rw [(h.detached l hl hm).2] at hd; exact nomatch hd
    | false =>
      rcases hs.lane l with hn | ⟨g, c, ctx, hc⟩
      · refine .inl fun g d hd => ?_
        rcases h.lane_stays hl with hlane | hlane
        · exact hn g d (hlane ▸ hd)
        · rw [hlane] at hd
          rw [flagLane_inSegment hd] at hd
          exact hn g d hd
      · exact .inr ⟨g, c, ctx, h.countsIn hs hl hc⟩
  · intro c ctx m hc hp
    obtain ⟨hcs, hm⟩ := h.context_of_opened hc hp
    obtain ⟨⟨r, hr, hphase⟩, d, hd⟩ := hs.opened c ctx m hcs hp
    have hcount : CountsIn s m ctx.segment c ctx := ⟨⟨d, hd⟩, ⟨hcs, hp, r, hr, hphase⟩, rfl⟩
    have hcount' := h.countsIn hs hm hcount
    exact ⟨hcount'.owned.counting, hcount'.lane⟩

/-! ### One lane detached -/

/-- What a close hands off, of a lane that owns no context: nothing. -/
theorem handedOff_notCounting {l : Fin 8} (h : NotCounting s l) : handedOff s l = none := by
  unfold handedOff
  split
  next g d hm => exact absurd hm (h g d)
  next => rfl

/-- What a close hands off, of a lane that counts: its segment, if its context holds an observation. -/
theorem handedOff_countsIn (hs : OwnersOk s) {l : Fin 8} {g : Nat} {c : Fin 16} {ctx : Context}
    (h : CountsIn s l g c ctx) : handedOff s l = if ctx.observations = [] then none else some g := by
  obtain ⟨d, hd⟩ := h.lane
  unfold handedOff
  rw [hd]
  dsimp only
  by_cases hob : ctx.observations = []
  · rw [if_pos hob, if_neg]
    rintro ⟨e, he⟩
    obtain ⟨x, hx, hdec⟩ := Option.map_eq_some_iff.mp he
    obtain ⟨-, hp, hne⟩ := of_decide_eq_true hdec
    rw [(hs.owner_unique h hx hp).2] at hne
    exact hne hob
  · rw [if_neg hob, if_pos]
    refine ⟨c, ?_⟩
    rw [h.owned.context]
    exact congrArg some (decide_eq_true ⟨h.segment, h.owned.phase, hob⟩)

theorem finRange_filter_one (l : Fin 8) : (List.finRange 8).filter (fun m => decide (m = l)) = [l] := by
  fin_cases l <;> decide

/-- What stays of the pool, the segments and the Settle Queue as a lane that owns no context is detached. -/
theorem detaches_of_frame {l : Fin 8} (hnone : ∀ c ctx, s.context c = some ctx → ctx.phase ≠ .opened l)
    (hn : NotCounting s l) (hcounts : CountsStay s t) (hothers : OtherLanes s t l) (hnext : t.lanes.next = s.lanes.next)
    (hfield : t.field = { s.field with signals := t.field.signals })
    (hsignals : ∀ m : Fin 8, m ≠ l → t.field.signals[m.val] = s.field.signals[m.val])
    (hgone : (s.lane l).mode ≠ .detached → t.field.signals[l.val] = none ∧ t.lane l = { s.lane l with
      mode := .detached, queue := [], paused := false, overrun := false
      dropTally := raised (s.lane l).dropTally (s.lane l).queue.length })
    (hstays : (s.lane l).mode = .detached → t.lane l = s.lane l ∧ t.field.signals[l.val] = s.field.signals[l.val]) :
    Detaches s t (fun m => decide (m = l)) where
  detached m hm hmode := by
    obtain rfl := of_decide_eq_true hm
    exact hgone hmode
  signals m hm := by
    by_cases hml : m = l
    · subst hml
      rcases hm with hm | hm
      · exact absurd rfl (of_decide_eq_false hm)
      · exact (hstays hm).2
    · exact hsignals m hml
  flagged m k c ctx _ hk hc hp _ := by
    obtain rfl := of_decide_eq_true hk
    exact absurd hp (hnone c ctx hc)
  same m hm _ := by
    by_cases hml : m = l
    · subst hml
      rcases hm with hm | hm
      · exact absurd rfl (of_decide_eq_false hm)
      · exact (hstays hm).1
    · exact hothers m hml
  stays m hm hmode := by
    obtain rfl := of_decide_eq_true hm
    exact (hstays hmode).1
  contexts c ctx k hk hc hp := by
    obtain rfl := of_decide_eq_true hk
    exact absurd hp (hnone c ctx hc)
  otherContexts c _ := by unfold State.context; rw [hcounts.2.1]
  otherSegments g _ := by unfold State.segment; rw [hcounts.1]
  queue := by
    rw [finRange_filter_one, List.filterMap_cons, handedOff_notCounting hn, hcounts.2.2]
    simp
  engine := by rw [hcounts.2.2]; simp
  pointer := hnext
  slots := by rw [hcounts.2.1]
  store := by rw [hcounts.1]
  field := hfield

theorem detach_signals (s : State) (l m : Fin 8) {signals : Vector (Option Signal) 8}
    (h : signals = s.field.signals.set l.val none l.isLt) :
    signals[m.val] = if m = l then none else s.field.signals[m.val] := by
  subst h
  split
  next hm => subst hm; exact Vector.getElem_set_self _
  next hm => exact Vector.getElem_set_ne l.isLt m.isLt fun hv => hm (Fin.ext hv.symm)

/-- One lane detached (R26). -/
theorem detach_detaches (hs : OwnersOk s) (l : Fin 8) : Detaches s (detach s l) (fun m => decide (m = l)) := by
  by_cases hmode : (s.lane l).mode = .detached
  · rw [detach_of_detached hmode]
    have hn : NotCounting s l := fun g d hd => LaneMode.noConfusion (hmode.symm.trans hd)
    exact detaches_of_frame (fun _ _ => hs.notCounting hn) hn ⟨rfl, rfl, rfl⟩ (fun _ _ => rfl) rfl rfl (fun _ _ => rfl)
      (absurd hmode) fun _ => ⟨rfl, rfl⟩
  obtain ⟨hlane, hfield, hnext, -⟩ := detach_spec hmode (hs.lane l)
  have hsignal (m : Fin 8) := detach_signals s l m (congrArg FieldPort.signals hfield)
  have hfield' : (detach s l).field = { s.field with signals := (detach s l).field.signals } := by rw [hfield]
  rcases hs.lane l with hn | ⟨g, c, ctx, hc⟩
  · refine detaches_of_frame (fun _ _ => hs.notCounting hn) hn ?_ (fun m hm => ?_) hnext hfield'
      (fun m hm => (hsignal m).trans (if_neg hm)) (fun _ => ⟨(hsignal l).trans (if_pos rfl), hlane⟩)
      fun hd => absurd hd hmode
    · rw [detach_notCounting hmode hn]
      exact ⟨by simp [laneGone, queueDropped], by simp [laneGone, queueDropped], by simp [laneGone, queueDropped]⟩
    · rw [detach_notCounting hmode hn, laneGone_lane, if_neg hm, queueDropped_lane, if_neg hm]
  · have hcloses := detach_closes hmode hc
    have howner {d : Fin 16} {x : Context} (hx : s.context d = some x) (hp : x.phase = .opened l) :=
      hs.owner_unique hc hx hp
    refine ⟨fun m hm _ => ?_, fun m hm => ?_, fun m k d x hm hk hx hp hob => ?_, fun m hm hsome => ?_,
      fun m hm hd => ?_, fun d x k hk hx hp => ?_, fun d hd => ?_, fun h hh => ?_, ?_, ?_, hnext, hcloses.slots,
      hcloses.store, hfield'⟩
    · obtain rfl := of_decide_eq_true hm
      exact ⟨(hsignal m).trans (if_pos rfl), hlane⟩
    · rcases hm with hm | hm
      · exact (hsignal m).trans (if_neg (of_decide_eq_false hm))
      · exact (hsignal m).trans (if_neg fun hml : m = l => hmode (hml ▸ hm))
    · obtain rfl := of_decide_eq_true hk
      obtain ⟨-, rfl⟩ := howner hx hp
      rw [hcloses.others m (of_decide_eq_false hm), if_pos hob]
    · have hml : m ≠ l := by
        rcases hm with hm | hm
        · exact of_decide_eq_false hm
        · exact fun hml => hmode (hml ▸ hm)
      rw [hcloses.others m hml, if_neg (hsome l c ctx (decide_eq_true rfl) hc.owned.context hc.owned.phase)]
    · obtain rfl := of_decide_eq_true hm
      exact absurd hd hmode
    · obtain rfl := of_decide_eq_true hk
      obtain ⟨rfl, rfl⟩ := howner hx hp
      by_cases hob : x.observations = []
      · obtain ⟨hcontext, -, hsegment⟩ := hcloses.empty hob
        simp only [if_pos hob]
        exact ⟨hcontext, hsegment⟩
      · obtain ⟨hcontext, -, -, hsegment⟩ := hcloses.handOff hob
        simp only [if_neg hob]
        exact ⟨hcontext, hsegment⟩
    · refine hcloses.contexts d fun hdc => ?_
      exact hd ctx l (decide_eq_true rfl) (hdc ▸ hc.owned.context) hc.owned.phase
    · exact hcloses.segments h fun hseg => hh c ctx l (decide_eq_true rfl) hc.owned.context hc.owned.phase hseg.symm
    · rw [finRange_filter_one, List.filterMap_cons, handedOff_countsIn hs hc]
      by_cases hob : ctx.observations = []
      · rw [(hcloses.empty hob).2.1, if_pos hob]; simp
      · rw [(hcloses.handOff hob).2.1, if_neg hob, hc.segment]; rfl
    · by_cases hob : ctx.observations = []
      · rw [(hcloses.empty hob).2.1]; simp
      · rw [(hcloses.handOff hob).2.2.1, (hcloses.handOff hob).2.1]
        simp

/-! ### One lane after another -/

/-- What a lane hands off is found in its own mode and context alone. -/
theorem Detaches.handedOff (h : Detaches s t gone) (hs : OwnersOk s) {m : Fin 8} (hm : gone m = false) :
    handedOff t m = handedOff s m := by
  rcases hs.lane m with hn | ⟨g, c, ctx, hc⟩
  · have hnt : NotCounting t m := by
      intro g d hd
      rcases h.lane_stays hm with hlane | hlane
      · exact hn g d (hlane ▸ hd)
      · rw [hlane] at hd
        rw [flagLane_inSegment hd] at hd
        exact hn g d hd
    rw [handedOff_notCounting hn, handedOff_notCounting hnt]
  · rw [handedOff_countsIn hs hc, handedOff_countsIn (h.owners hs) (h.countsIn hs hm hc)]

/-- Lane l detached, and then others of higher number (R26). -/
theorem Detaches.cons {l : Fin 8} (h : Detaches s t fun m => decide (m = l)) (k : Detaches t u gone) (hs : OwnersOk s)
    (hl : gone l = false) (horder : (List.finRange 8).filter (fun m => decide (m = l) || gone m) =
      l :: (List.finRange 8).filter gone) : Detaches s u fun m => decide (m = l) || gone m := by
  have hstay {m : Fin 8} (hm : m ≠ l) := h.lane_stays (l := m) (decide_eq_false hm)
  have hne {m : Fin 8} (hm : gone m = true) : m ≠ l := fun hml => Bool.false_ne_true (hl.symm.trans (hml ▸ hm))
  have hsplit {m : Fin 8} (hm : (decide (m = l) || gone m) = true) : m = l ∨ gone m = true := by simpa using hm
  have hout {m : Fin 8} (hm : (decide (m = l) || gone m) = false) : m ≠ l ∧ gone m = false := by simpa using hm
  have hself (m : Fin 8) (hm : m = l) : (decide (m = l) || gone m) = true := by simp [hm]
  have hothers (m : Fin 8) (hm : gone m = true) : (decide (m = l) || gone m) = true := by simp [hm]
  have hmode {m : Fin 8} (hm : m ≠ l) : (t.lane m).mode = .detached ↔ (s.lane m).mode = .detached := by
    rcases hstay hm with hlane | hlane <;> rw [hlane]
    exact flagLane_detached
  have hdetached {m : Fin 8} (hd : (s.lane m).mode = .detached) : (t.lane m).mode = .detached := by
    by_cases hml : m = l
    · rw [h.stays m (decide_eq_true hml) hd]; exact hd
    · exact (hmode hml).mpr hd
  have hcontext {c : Fin 16} {ctx : Context} {m : Fin 8} (hm : gone m = true) (hc : s.context c = some ctx)
      (hp : ctx.phase = .opened m) := h.kept hs (decide_eq_false (hne hm)) hc hp
  -- the lanes that the others leave: l itself, now DETACHED, and those not gone
  have hlast : u.lane l = t.lane l ∨ (t.lane l).mode ≠ .detached := by
    by_cases hd : (t.lane l).mode = .detached
    · refine .inl ((k.lane_stays hl).elim id fun hf => hf.trans (flagLane_mode _ (by rw [hd]; rfl)))
    · exact .inr hd
  refine ⟨fun m hm hd => ?_, fun m hm => ?_, fun m q c ctx hm hq hc hp hob => ?_, fun m hm hsome => ?_,
    fun m hm hd => ?_, fun c ctx m hm hc hp => ?_, fun c hc => ?_, fun g hg => ?_, ?_, ?_, k.pointer.trans h.pointer,
    k.slots.trans h.slots, ?_, ?_⟩
  · rcases hsplit hm with rfl | hm
    · obtain ⟨hsig, hlane⟩ := h.detached m (decide_eq_true rfl) hd
      have hgone : (t.lane m).mode = .detached := by rw [hlane]
      exact ⟨(k.signals m (.inl hl)).trans hsig, (hlast.resolve_right (not_not_intro hgone)).trans hlane⟩
    · obtain ⟨hsig, hlane⟩ := k.detached m hm (mt (hmode (hne hm)).mp hd)
      refine ⟨hsig, hlane.trans ?_⟩
      rcases hstay (hne hm) with hl' | hl' <;> rw [hl']
      rw [(flagLane_fields _).1]
  · rcases hm with hm | hm
    · obtain ⟨hml, hg⟩ := hout hm
      rw [k.signals m (.inl hg), h.signals m (.inl (decide_eq_false hml))]
    · rw [k.signals m (.inr (hdetached hm)), h.signals m (.inr hm)]
  · obtain ⟨hml, hg⟩ := hout hm
    rcases hsplit hq with rfl | hq
    · have hflag := h.flagged m q c ctx (decide_eq_false hml) (decide_eq_true rfl) hc hp hob
      rcases k.lane_stays hg with hlane | hlane <;> rw [hlane, hflag]
      exact flagLane_idem _
    · have hflag := k.flagged m q c ctx hg hq (hcontext hq hc hp).1 hp hob
      rcases hstay hml with hlane | hlane <;> rw [hflag, hlane]
      exact flagLane_idem _
  · have hfirst : t.lane m = s.lane m := by
      by_cases hml : m = l
      · rcases hm with hm | hm
        · exact absurd hml (hout hm).1
        · exact h.stays m (decide_eq_true hml) hm
      · exact h.same m (.inl (decide_eq_false hml)) fun q c ctx hq hc hp =>
          hsome q c ctx (hself q (of_decide_eq_true hq)) hc hp
    rw [← hfirst]
    refine k.same m (hm.imp (fun hm => (hout hm).2) hdetached) fun q c ctx hq hc hp => ?_
    obtain ⟨hcs, -⟩ := h.context_of_opened hc hp
    exact hsome q c ctx (hothers q hq) hcs hp
  · have hfirst : t.lane m = s.lane m := by
      by_cases hml : m = l
      · exact h.stays m (decide_eq_true hml) hd
      · rcases hstay hml with hlane | hlane
        · exact hlane
        · exact hlane.trans (flagLane_mode _ (by rw [hd]; rfl))
    rw [← hfirst]
    cases hg : gone m with
    | true => exact k.stays m hg (hdetached hd)
    | false => exact (k.lane_stays hg).elim id fun hf => hf.trans (flagLane_mode _ (by rw [hdetached hd]; rfl))
  · rcases hsplit hm with rfl | hm
    · obtain ⟨hclosed, hsegment⟩ := h.contexts c ctx m (decide_eq_true rfl) hc hp
      constructor
      · rw [k.otherContexts c fun x q _ hx hxp => ?_, hclosed]
        obtain ⟨hxs, hq⟩ := h.context_of_opened hx hxp
        obtain rfl := Option.some.inj (hxs.symm.trans hc)
        exact of_decide_eq_false hq (ContextPhase.opened.inj (hxp.symm.trans hp))
      · rw [k.otherSegments _ fun d x q hq hx hxp hseg => ?_, hsegment]
        obtain ⟨hxs, -⟩ := h.context_of_opened hx hxp
        exact hne hq (hs.segment_unique hxs hxp hc hp hseg)
    · obtain ⟨hkept, hsegment⟩ := hcontext hm hc hp
      rw [← hsegment]
      exact k.contexts c ctx m hm hkept hp
  · have hfirst : t.context c = s.context c :=
      h.otherContexts c fun ctx m hm => hc ctx m (hself m (of_decide_eq_true hm))
    rw [← hfirst]
    exact k.otherContexts c fun ctx m hm hctx => hc ctx m (hothers m hm) (hfirst ▸ hctx)
  · rw [k.otherSegments g fun c ctx m hm hctx hp => ?_]
    · exact h.otherSegments g fun c ctx m hm => hg c ctx m (hself m (of_decide_eq_true hm))
    · exact hg c ctx m (hothers m hm) (h.context_of_opened hctx hp).1 hp
  · have hrest : ((List.finRange 8).filter gone).filterMap (Machine.handedOff t) =
        ((List.finRange 8).filter gone).filterMap (Machine.handedOff s) := by
      refine List.filterMap_congr fun m hm => ?_
      exact h.handedOff hs (decide_eq_false (hne (List.mem_filter.mp hm).2))
    rw [k.queue, hrest, h.queue, horder, finRange_filter_one, List.append_assoc, ← List.filterMap_append]
    rfl
  · rw [k.engine, h.engine]
    obtain ⟨a, ha⟩ : ∃ a, t.settle.queue = s.settle.queue ++ a := ⟨_, h.queue⟩
    obtain ⟨b, hb⟩ : ∃ b, u.settle.queue = t.settle.queue ++ b := ⟨_, k.queue⟩
    rw [hb, ha]
    by_cases hidle : s.settle.engine = .idle <;> by_cases hsa : a = [] <;> simp [hidle, hsa]
  · rw [k.store, h.store]
  · rw [k.field, h.field]

/-- No lane detached changes nothing. -/
theorem Detaches.nil (s : State) : Detaches s s fun _ => false where
  detached _ hm := nomatch hm
  signals _ _ := rfl
  flagged _ _ _ _ _ hm := nomatch hm
  same _ _ _ := rfl
  stays _ _ _ := rfl
  contexts _ _ _ hm := nomatch hm
  otherContexts _ _ := rfl
  otherSegments _ _ := rfl
  queue := by simp
  engine := by simp
  pointer := rfl
  slots := rfl
  store := rfl
  field := rfl

end

theorem finRange_pairwise : (List.finRange 8).Pairwise (· < ·) := by decide

/-- The members of a rising list, in order. -/
theorem finRange_filter_mem {ls : List (Fin 8)} (h : ls.Pairwise (· < ·)) :
    (List.finRange 8).filter (fun m => decide (m ∈ ls)) = ls := by
  refine List.Perm.eq_of_pairwise (le := (· < ·)) (fun a b _ _ hab hba => absurd hba (lt_asymm hab))
    (finRange_pairwise.filter _) h ?_
  rw [List.perm_ext_iff_of_nodup ((List.nodup_finRange 8).filter _) (h.imp fun hab => ne_of_lt hab)]
  intro m
  simp

/-- Lanes detached in increasing lane number (R26). -/
theorem detachLanes_detaches {s : State} (hs : OwnersOk s) (ls : List (Fin 8)) (h : ls.Pairwise (· < ·)) :
    Detaches s (detachLanes ls s) fun m => decide (m ∈ ls) := by
  induction ls generalizing s with
  | nil =>
    have hnone : (fun m : Fin 8 => decide (m ∈ ([] : List (Fin 8)))) = fun _ => false := by
      funext m; exact decide_eq_false List.not_mem_nil
    rw [hnone]
    exact .nil s
  | cons l ls ih =>
    obtain ⟨hl, hls⟩ := List.pairwise_cons.mp h
    have hfirst := detach_detaches hs l
    have hgone : (fun m => decide (m ∈ l :: ls)) = fun m => decide (m = l) || decide (m ∈ ls) := by
      funext m; simp
    have hout : decide (l ∈ ls) = false := decide_eq_false fun hm => lt_irrefl l (hl l hm)
    have horder := finRange_filter_mem h
    rw [hgone] at horder ⊢
    refine hfirst.cons (ih (hfirst.owners hs) hls) hs hout ?_
    rw [horder, finRange_filter_mem hls]

/-- What a detachment leaves as it was. -/
theorem detach_frame (s : State) (l : Fin 8) : detach s l = { s with
    lanes := (detach s l).lanes, field := (detach s l).field, store := (detach s l).store, pool := (detach s l).pool
    settle := (detach s l).settle, notices := (detach s l).notices } := by
  by_cases hmode : (s.lane l).mode = .detached
  · rw [detach_of_detached hmode]
  · rw [detach_eq hmode]
    split
    next c _ =>
      have hclose := closeContext_frame (queueDropped s l) c .laneDown
      generalize closeContext (queueDropped s l) c .laneDown = u at hclose
      rw [hclose]
      rfl
    next => rfl

theorem detachLanes_frame (s : State) (ls : List (Fin 8)) : detachLanes ls s = { s with
    lanes := (detachLanes ls s).lanes, field := (detachLanes ls s).field, store := (detachLanes ls s).store
    pool := (detachLanes ls s).pool, settle := (detachLanes ls s).settle, notices := (detachLanes ls s).notices } := by
  induction ls generalizing s with
  | nil => rfl
  | cons l ls ih =>
    have hrest := ih (detach s l)
    change detachLanes ls (detach s l) = { s with
      lanes := (detachLanes ls (detach s l)).lanes, field := (detachLanes ls (detach s l)).field
      store := (detachLanes ls (detach s l)).store, pool := (detachLanes ls (detach s l)).pool
      settle := (detachLanes ls (detach s l)).settle, notices := (detachLanes ls (detach s l)).notices }
    generalize detachLanes ls (detach s l) = u at hrest
    rw [hrest, detach_frame s l]

/-- Detachments speak of the lanes, the Field Port, the store, the pool and the Settle Queue alone. -/
theorem Detaches.congr {s t s' t' : State} {gone : Fin 8 → Bool} (h : Detaches s t gone)
    (hs : s' = { s with requests := s'.requests, opts := s'.opts, notices := s'.notices })
    (ht : t' = { t with requests := t'.requests, opts := t'.opts, notices := t'.notices }) : Detaches s' t' gone := by
  rw [hs, ht]
  exact ⟨h.detached, h.signals, h.flagged, h.same, h.stays, h.contexts, h.otherContexts, h.otherSegments, h.queue,
    h.engine, h.pointer, h.slots, h.store, h.field⟩

end Sys2Proof.Machine
end

section
/-! Links going UP and DOWN (R162, R163, R170). -/

namespace Sys2Proof.Machine

section
variable {s : State}

theorem not_held (hpin : s.resetPin = false) (hslots : ∀ sl ∈ s.requests.slots, sl.state ≠ .inService .reset) :
    held s = false := by
  rw [Bool.eq_false_iff, ne_eq, held_iff, hpin]
  rintro (h | ⟨sl, hsl, hstate⟩)
  · exact Bool.false_ne_true h
  · exact hslots sl hsl hstate

/-! ### A frame cut upstream -/

/-- The oldest slot that passes a test is the one changed. -/
theorem changeFirst_append (test : Slot → Bool) (f : Slot → Slot) (before after : List Slot) (sl : Slot)
    (hbefore : ∀ x ∈ before, test x = false) (hsl : test sl = true) :
    changeFirst test f (before ++ sl :: after) = before ++ f sl :: after := by
  induction before with
  | nil => exact if_pos hsl
  | cons x xs ih =>
    obtain ⟨hx, hxs⟩ := List.forall_mem_cons.mp hbefore
    rw [List.cons_append, changeFirst, hx, ih hxs]
    rfl

theorem replyIsSending_iff (sl : Slot) : replyIsSending sl = true ↔ ∃ r, sl.state = .sending r := by
  unfold replyIsSending
  split
  next r h => exact ⟨fun _ => ⟨r, h⟩, fun _ => rfl⟩
  next h => exact ⟨nofun, fun ⟨r, hr⟩ => absurd hr (h r)⟩

theorem stopSending_eq {sl : Slot} {r : Reply} (h : sl.state = .sending r) :
    stopSending sl = { sl with state := .replyReady r } := by
  unfold stopSending; rw [h]

/-- A reply being sent is ready again once its frame is cut (R171). -/
theorem cutTrunk_reply {frame : List Byte} (h : s.trunk.tx = some { what := .reply, frame := frame }) :
    cutTrunk s = (s.setTrunkTx none).setSlots (changeFirst replyIsSending stopSending s.requests.slots) := by
  unfold cutTrunk; rw [h]; rfl

/-- A NOTICE being sent waits again once its frame is cut (R165). -/
theorem cutTrunk_notice {conditions latches : Conditions} {frame : List Byte}
    (h : s.trunk.tx = some { what := .notice conditions latches, frame := frame }) :
    cutTrunk s = { s.setTrunkTx none with notices := { s.notices with waiting := true } } := by
  unfold cutTrunk; rw [h]; rfl

/-- A finding being sent stays at the head (R149). -/
theorem cutTrunk_finding {frame : List Byte} (h : s.trunk.tx = some { what := .finding, frame := frame }) :
    cutTrunk s = s.setTrunkTx none := by
  unfold cutTrunk; rw [h]

theorem cutTrunk_idle (h : s.trunk.tx = none) : cutTrunk s = s := by
  unfold cutTrunk; rw [h]

theorem cutTrunk_frame (s : State) : cutTrunk s = { s with
    trunk := { s.trunk with tx := none }, requests := (cutTrunk s).requests, notices := (cutTrunk s).notices } := by
  cases h : s.trunk.tx with
  | none =>
    rw [cutTrunk_idle h, ← h]
  | some tx =>
    obtain ⟨what, frame⟩ := tx
    cases what with
    | reply => rw [cutTrunk_reply h]; rfl
    | notice conditions latches => rw [cutTrunk_notice h]; rfl
    | finding => rw [cutTrunk_finding h]; rfl

/-- A frame being received is discarded and counted (R162). -/
def receivingLost (receiving : Bool) (s : State) : State := if receiving then discardTrunk s else s

theorem receivingLost_frame (receiving : Bool) (s : State) : receivingLost receiving s = { s with trunk := { s.trunk with
    discards := if receiving then raised s.trunk.discards 1 else s.trunk.discards } } := by
  cases receiving <;> rfl

theorem trunkDown_eq (receiving : Bool) (s : State) : trunkDown receiving s =
    { cutTrunk (receivingLost receiving s) with
      trunk := { (cutTrunk (receivingLost receiving s)).trunk with signal := false, up := false } } := rfl

/-! ### The Field Link going DOWN -/

/-- The Field Port as its link goes DOWN, before the lanes are detached (R162). -/
def portDown (receiving : Bool) (s : State) : State :=
  { s with field := { s.field with
      signal := false, up := false, tx := none
      discards := if receiving then raised s.field.discards 1 else s.field.discards } }

theorem fieldDown_eq (receiving : Bool) (s : State) : fieldDown receiving s = detachLanes lanesInOrder (portDown receiving s) := by
  cases receiving <;> rfl

theorem OwnersOk.congr {t : State} (h : OwnersOk s) (hlanes : t.lanes = s.lanes) (hstore : t.store = s.store)
    (hpool : t.pool = s.pool) : OwnersOk t := by
  have hlane (l : Fin 8) : t.lane l = s.lane l := State.lane_eq_of_lanes hlanes l
  have hcontext (c : Fin 16) : t.context c = s.context c := by unfold State.context; rw [hpool]
  have hsegment (g : Nat) : t.segment g = s.segment g := by unfold State.segment; rw [hstore]
  refine ⟨fun l => (h.lane l).imp (fun hn g d => ?_) fun ⟨g, c, ctx, hc⟩ => ⟨g, c, ctx, hc.congr ?_ hstore hpool⟩,
    fun c ctx l hc hp => ?_⟩
  · rw [hlane]; exact hn g d
  · rw [hcontext] at hc
    rw [hlane, countsIn, hsegment]
    exact h.opened c ctx l hc hp
  · rw [hlane]

theorem linkDown_field (receiving : Bool) (hheld : ¬ held s = true) (hup : s.field.up = true) :
    linkDown .field receiving s = fieldDown receiving s := by
  unfold linkDown
  dsimp only
  rw [if_neg hheld, if_pos hup]

theorem portDown_detaches (receiving : Bool) (h : OwnersOk s) :
    Detaches (portDown receiving s) (fieldDown receiving s) fun _ => true := by
  have hall := detachLanes_detaches (h.congr (t := portDown receiving s) rfl rfl rfl) lanesInOrder (by decide)
  have hgone : (fun l => decide (l ∈ lanesInOrder)) = fun _ => true := by
    funext l; exact decide_eq_true (mem_lanesInOrder l)
  rw [fieldDown_eq, ← hgone]
  exact hall

end

/-- Settles O60: held in reset only the receiver's signal changes; else the links go UP at once, the Trunk Link goes DOWN
with its frame cut, and the Field Link with every lane detached. -/
theorem linksGoUpAndDown : Obligations.LinksGoUpAndDown := by
  refine ⟨fun s hheld => ?_, fun s hpin hslots => ?_⟩
  · have hheld := (held_iff s).mpr hheld
    exact ⟨fun b => ⟨congrArg _ (if_pos hheld), congrArg _ (if_pos hheld)⟩, congrArg _ (if_pos hheld), congrArg _ (if_pos hheld)⟩
  have hheld : ¬ held s = true := by rw [not_held hpin hslots]; exact Bool.false_ne_true
  refine ⟨congrArg _ (if_neg hheld), congrArg _ (if_neg hheld), fun b hup => ?_, fun b hup hclaims => ?_⟩
  · have hexec : exec (.linkDown .trunk b) s = .next (trunkDown b s) :=
      congrArg _ ((if_neg hheld).trans (if_pos hup))
    have hlost := receivingLost_frame b s
    have hrequests : (receivingLost b s).requests = s.requests := by rw [hlost]
    have hnotices : (receivingLost b s).notices = s.notices := by rw [hlost]
    have htx : (receivingLost b s).trunk.tx = s.trunk.tx := by rw [hlost]
    have hcut := cutTrunk_frame (receivingLost b s)
    refine ⟨_, hexec, ?_, fun frame before sl after rep hframe hsl hstate hbefore => ?_,
      fun frame conditions latches hframe => ?_, fun hnone => ?_, ?_⟩
    · rw [trunkDown_eq, hcut, hlost]
    · rw [trunkDown_eq, cutTrunk_reply (htx.trans hframe)]
      refine ⟨?_, hnotices⟩
      have hslots : changeFirst replyIsSending stopSending (receivingLost b s).requests.slots =
          before ++ { sl with state := .replyReady rep } :: after := by
        rw [hrequests, hsl, changeFirst_append _ _ _ _ _ (fun x hx => ?_) ((replyIsSending_iff sl).mpr ⟨rep, hstate⟩),
          stopSending_eq hstate]
        rw [Bool.eq_false_iff, ne_eq, replyIsSending_iff]
        exact fun ⟨q, hq⟩ => hbefore x hx q hq
      rw [hslots, ← hrequests]
      rfl
    · rw [trunkDown_eq, cutTrunk_notice (htx.trans hframe)]
      exact ⟨by rw [← hnotices], hrequests⟩
    · rw [trunkDown_eq]
      rcases hnone with hnone | ⟨frame, hframe⟩
      · rw [cutTrunk_idle (htx.trans hnone)]
        exact ⟨hnotices, hrequests⟩
      · rw [cutTrunk_finding (htx.trans hframe)]
        exact ⟨hnotices, hrequests⟩
    · rw [trunkDown_eq]
      generalize cutTrunk (receivingLost b s) = u at hcut
      rw [hcut, hlost]
  · have hexec : exec (.linkDown .field b) s = .next (fieldDown b s) := by
      rw [← linkDown_field b hheld hup]; rfl
    have hdetaches := portDown_detaches b hclaims.owners
    have hframe := detachLanes_frame (portDown b s) lanesInOrder
    rw [← fieldDown_eq] at hframe
    rw [hexec]
    generalize fieldDown b s = t at hdetaches hframe
    have hdiscards : t.field.discards = if b then raised s.field.discards 1 else s.field.discards := by
      rw [hdetaches.field]; rfl
    refine ⟨t, rfl, hdetaches.field, ?_, hframe⟩
    rw [hdiscards]
    exact hdetaches

end Sys2Proof.Machine
end

section
/-! OPTION requests: the words by their codes, the values stored, and the reactions to a write (R175 to R177). -/

namespace Sys2Proof.Machine

section
variable {s : State} {before after : List Slot} {sl : Slot} {o : Options} {w : OptionWord}

/-! ### Words and codes (R175) -/

/-- The code of a word. -/
def wordCode : OptionWord → Nat
  | .general => 0x00
  | .laneEnable => 0x01
  | .laneAF => 0x02
  | .laneAE => 0x03
  | .dwell l => 0x04 + l.val
  | .fqHigh => 0x0C
  | .fqResume => 0x0D
  | .xread => 0x0E
  | .revise => 0x0F
  | .poolLow => 0x10
  | .noticeRise => 0x11
  | .noticeFall => 0x12

theorem optionWord_wordCode (w : OptionWord) : optionWord (wordCode w) = some w := by
  cases w with
  | dwell l => revert l; decide
  | _ => rfl

theorem wordValue_wordCode (o : Options) (w : OptionWord) : wordValue o (wordCode w) = some (readOption o w) := by
  cases w with
  | dwell l => fin_cases l <;> rfl
  | _ => rfl

/-- Every code of a word is that of `wordCode`. -/
theorem code_of_wordValue {code : Nat} {x : Int} (h : wordValue o code = some x) :
    ∃ w, code = wordCode w ∧ x = readOption o w := by
  have hcode : code ≤ 18 := by
    by_contra hgt
    obtain ⟨k, rfl⟩ : ∃ k, code = k + 19 := ⟨code - 19, by omega⟩
    exact nomatch h
  have hword : ∃ w, wordCode w = code := by
    have hall : ∀ n ∈ List.range 19, (optionWord n).map wordCode = some n := by decide
    obtain ⟨w, -, hw⟩ := Option.map_eq_some_iff.mp (hall code (List.mem_range.mpr (by omega)))
    exact ⟨w, hw⟩
  obtain ⟨w, rfl⟩ := hword
  exact ⟨w, rfl, (Option.some.inj (h.symm.trans (wordValue_wordCode o w)))⟩

theorem optionWord_above {code : Nat} (h : 0x12 < code) : optionWord code = none := by
  unfold optionWord
  rw [if_neg (by omega), if_neg (by omega), if_neg (by omega), if_neg (by omega), dif_neg (by omega),
    if_neg (by omega), if_neg (by omega), if_neg (by omega), if_neg (by omega), if_neg (by omega), if_neg (by omega),
    if_neg (by omega)]

/-! ### Values stored (R176) -/

theorem clampNat_eq (lo hi : Nat) (v : Int) (h : lo ≤ hi) : (clampNat lo hi v : Int) = max (lo : Int) (min (hi : Int) v) := by
  have hclamp := clampInt_eq_max_min lo hi v (by exact_mod_cast h)
  unfold clampNat
  omega

theorem toNat_ofInt_eq (n : Nat) (v : Int) : ((BitVec.ofInt n v).toNat : Int) = v % 2 ^ n := by
  rw [BitVec.toNat_ofInt, Int.toNat_of_nonneg (Int.emod_nonneg _ (by positivity))]
  norm_cast

/-- What is read after a value has been stored (R175, R176). -/
theorem readOption_store (ho : OptionsOk o) (w : OptionWord) (v : Int) :
    readOption (storeOption o w v) w = storedAs o (wordCode w) v := by
  cases w with
  | general => exact toNat_ofInt_eq 3 v
  | laneEnable => exact toNat_ofInt_eq 8 v
  | laneAF => exact clampNat_eq 2 60 v (by decide)
  | laneAE =>
    have haf := ho.laneAF.1
    have hclamp := clampNat_eq 0 (o.laneAF - 1) v (Nat.zero_le _)
    change (clampNat 0 (o.laneAF - 1) v : Int) = max 0 (min ((o.laneAF : Int) - 1) v)
    rw [hclamp]
    omega
  | dwell l =>
    have hread : readOption (storeOption o (.dwell l) v) (.dwell l) = clampNat 0 60000 v := by
      simp [readOption, storeOption]
    rw [hread, clampNat_eq 0 60000 v (by decide)]
    fin_cases l <;> rfl
  | fqHigh => exact clampNat_eq 1 256 v (by decide)
  | fqResume => exact clampNat_eq 0 239 v (by decide)
  | xread => exact clampInt_eq_max_min (-100) (-20) v (by decide)
  | revise => exact clampInt_eq_max_min 0 30 v (by decide)
  | poolLow => exact clampNat_eq 0 4096 v (by decide)
  | noticeRise => exact toNat_ofInt_eq 21 v
  | noticeFall => exact toNat_ofInt_eq 21 v

/-- A new LANE_AF lowers a LANE_AE that it reaches (R57). -/
theorem storeOption_laneAF (o : Options) (v : Int) :
    ((storeOption o .laneAF v).laneAE : Int) = min (o.laneAE : Int) (storedAs o 0x02 v - 1) := by
  have hclamp := clampNat_eq 2 60 v (by decide)
  have hnew : ((storeOption o .laneAF v).laneAE : Int) =
      if clampNat 2 60 v ≤ o.laneAE then ((clampNat 2 60 v - 1 : Nat) : Int) else o.laneAE := by
    dsimp only [storeOption]; split <;> rfl
  have hstored : storedAs o 0x02 v = max 2 (min 60 v) := rfl
  rw [hnew, hstored]
  split <;> omega

/-- No other word changes, but LANE_AE at a write of LANE_AF. -/
theorem readOption_store_other {w' : OptionWord} (v : Int) (hne : w' ≠ w) (hae : ¬ (w = .laneAF ∧ w' = .laneAE)) :
    readOption (storeOption o w v) w' = readOption o w' := by
  cases w with
  | laneAF =>
    cases w' with
    | laneAF => exact absurd rfl hne
    | laneAE => exact absurd ⟨rfl, rfl⟩ hae
    | _ => rfl
  | dwell l =>
    cases w' with
    | dwell m =>
      have hlm : l.val ≠ m.val := fun h => hne (congrArg _ (Fin.ext h.symm))
      simp [readOption, storeOption, hlm]
    | _ => rfl
  | general => cases w' with | general => exact absurd rfl hne | _ => rfl
  | laneEnable => cases w' with | laneEnable => exact absurd rfl hne | _ => rfl
  | laneAE => cases w' with | laneAE => exact absurd rfl hne | _ => rfl
  | fqHigh => cases w' with | fqHigh => exact absurd rfl hne | _ => rfl
  | fqResume => cases w' with | fqResume => exact absurd rfl hne | _ => rfl
  | xread => cases w' with | xread => exact absurd rfl hne | _ => rfl
  | revise => cases w' with | revise => exact absurd rfl hne | _ => rfl
  | poolLow => cases w' with | poolLow => exact absurd rfl hne | _ => rfl
  | noticeRise => cases w' with | noticeRise => exact absurd rfl hne | _ => rfl
  | noticeFall => cases w' with | noticeFall => exact absurd rfl hne | _ => rfl

/-! ### OPTION served (R176) -/

/-- The row that serves an OPTION. -/
theorem Waiting.exec_option {op code own : Nat} {value : BitVec 32} {i : Instr}
    (hw : Waiting s before sl after (.option op code value))
    (hi : own = 0 ∧ i = .optionRead ∨ own = 1 ∧ i = .optionWrite ∨ own = 2 ∧ i = .optionSet ∨ own = 3 ∧ i = .optionClear)
    (hop : op = own ∨ 3 < op) : exec i s = .next (serveNow s (option op code value)) := by
  have hserve : serveOption own s = serveNow s (option op code value) := by
    unfold serveOption
    rw [hw.next]
    exact if_pos hop
  rw [← hserve]
  rcases hi with ⟨rfl, rfl⟩ | ⟨rfl, rfl⟩ | ⟨rfl, rfl⟩ | ⟨rfl, rfl⟩ <;> rfl

theorem option_unknown {op code : Nat} {value : BitVec 32} (h : optionWord code = none) :
    option op code value s = (s, { status := .badArgument }) := by
  unfold option; rw [h]

theorem option_badOperation {op code : Nat} {value : BitVec 32} (h : 3 < op) :
    option op code value s = (s, { status := .badArgument }) := by
  unfold option
  cases optionWord code with
  | none => rfl
  | some w => exact if_pos h

theorem option_read (w : OptionWord) (value : BitVec 32) : option 0 (wordCode w) value s =
    (s, { status := .ok, body := .option (wordCode w) (readOption s.opts w) }) := by
  unfold option
  rw [optionWord_wordCode]
  rfl

theorem option_writes {op : Nat} (hop : op ≤ 3) (w : OptionWord) {value : BitVec 32} {v : Int}
    (hv : computedValue op (readOption s.opts w) value = some v) : option op (wordCode w) value s =
    (writeWord s w v, { status := .ok, body := .option (wordCode w) (readOption (writeWord s w v).opts w) }) := by
  unfold option
  rw [optionWord_wordCode]
  dsimp only
  rw [if_neg (Nat.not_lt.mpr hop), hv]

end

/-- Settles O22: a READ leaves the word as it is, and the two refusals leave everything. -/
theorem optionReadsAndRefusalsChangeNothing : Obligations.OptionReadsAndRefusalsChangeNothing := by
  refine ⟨fun s before after sl code value x hx hw => ?_, fun s before after sl op code value own i hw hi hbad => ?_⟩
  · obtain ⟨w, rfl, rfl⟩ := code_of_wordValue hx
    exact ⟨_, hw.exec_option (.inl ⟨rfl, rfl⟩) (.inl rfl), hw.only _ _ (option_read w value)⟩
  · refine ⟨_, hw.exec_option hi (hbad.symm.imp And.left id), hw.only _ { status := .badArgument } ?_⟩
    rcases hbad with hop | ⟨-, hcode⟩
    · exact option_badOperation hop
    · exact option_unknown (optionWord_above hcode)

end Sys2Proof.Machine
end

section
/-! What a write of an option word does beside storing the value (R27, R54 to R57, R116, R177). -/

namespace Sys2Proof.Machine

section
variable {s : State} {before after : List Slot} {sl : Slot} {w : OptionWord} {v : Int}

/-! ### The Settle Engine's reach -/

theorem afterSummary_frame (s : State) (w : Settle) (rs : List Ruling) : afterSummary s w rs =
    { s with field := (afterSummary s w rs).field, settle := { s.settle with engine := .settling { w with stage := .release } } } := by
  unfold afterSummary
  dsimp only
  split
  · rfl
  · split
    · rfl
    · split
      · unfold offerFieldOut; split <;> rfl
      · rfl

theorem resumeEngine_frame (s : State) : resumeEngine s = { s with
    field := (resumeEngine s).field, settle := (resumeEngine s).settle, findq := (resumeEngine s).findq
    notices := (resumeEngine s).notices } := by
  unfold resumeEngine
  split
  · split
    · split
      · dsimp only
        split
        · rw [afterSummary_frame]; rfl
        · rfl
      · rfl
    · rfl
  · rfl

theorem offerFieldOut_setSlots (s : State) (f : OutFrame) (slots : List Slot) :
    offerFieldOut (s.setSlots slots) f = (offerFieldOut s f).setSlots slots := by
  unfold offerFieldOut
  rw [apply_ite fun u => State.setSlots u slots]
  exact ite_congr rfl (fun _ => rfl) fun _ => rfl

/-- The rest of the summary does not read the Request Queue. -/
theorem afterSummary_setSlots (s : State) (w : Settle) (rs : List Ruling) (slots : List Slot) :
    afterSummary (s.setSlots slots) w rs = (afterSummary s w rs).setSlots slots := by
  have hcontext : settlingContext ((s.setSlots slots).setSettle { w with stage := .release }) w.segment =
      settlingContext (s.setSettle { w with stage := .release }) w.segment := rfl
  unfold afterSummary
  dsimp only
  rw [hcontext]
  cases settlingContext (s.setSettle { w with stage := .release }) w.segment with
  | none => rfl
  | some x =>
    dsimp only
    cases closedBy x.2 with
    | none => rfl
    | some y =>
      dsimp only
      rw [apply_ite fun u => State.setSlots u slots]
      exact ite_congr rfl (fun _ => offerFieldOut_setSlots (s.setSettle { w with stage := .release }) _ slots) fun _ => rfl

/-- A resumption does not read the Request Queue. -/
theorem resumeEngine_setSlots (s : State) (slots : List Slot) :
    resumeEngine (s.setSlots slots) = (resumeEngine s).setSlots slots := by
  by_cases hkept : ∃ w f, s.settle.engine = .settling w ∧ w.kept = some f
  · obtain ⟨w, f, hw, hf⟩ := hkept
    rcases Nat.lt_or_ge s.opts.fqResume s.findq.records.length with habove | hlen
    · rw [resumeEngine_above s w f hw hf habove, resumeEngine_above (s.setSlots slots) w f hw hf habove]
    · by_cases hsettled : f.kind = .segmentSettled ∧ ∃ rs, w.stage = .summary rs
      · obtain ⟨hk, rs, hs⟩ := hsettled
        rw [resumeEngine_settled s w f rs hw hf hlen hk hs, resumeEngine_settled (s.setSlots slots) w f rs hw hf hlen hk hs,
          ← afterSummary_setSlots]
        rfl
      · have hother : f.kind ≠ .segmentSettled ∨ ∀ rs, w.stage ≠ .summary rs := by
          rw [not_and_or] at hsettled
          exact hsettled.imp id fun h rs hs => h ⟨rs, hs⟩
        rw [resumeEngine_other s w f hw hf hlen hother, resumeEngine_other (s.setSlots slots) w f hw hf hlen hother]
        rfl
  · have hnone (w : Settle) (f : Finding) (hw : s.settle.engine = .settling w) : w.kept ≠ some f :=
      fun hf => hkept ⟨w, f, hw, hf⟩
    rw [resumeEngine_running s hnone, resumeEngine_running (s.setSlots slots) hnone]

/-! ### The thresholds of a lane (R54 to R57) -/

/-- The words, a lane's record and its signal, all that its thresholds speak of. -/
def lanesThresholds (s : State) (l : Fin 8) : Options × Lane × Option Signal := (s.opts, s.lane l, s.field.signals[l.val])

/-- A lane's record and signal after a write of LANE_AF or LANE_AE. -/
def reevaluated (x : Options × Lane × Option Signal) : Options × Lane × Option Signal :=
  if x.2.1.mode = .detached then x
  else
    let y := pausesAt x.1 [x.2.1.queue.length] x.2.1.paused x.2.2
    (x.1, { x.2.1 with
      paused := y.1, overrun := x.2.1.overrun && decide (x.1.laneAE < x.2.1.queue.length) }, y.2)

theorem evalOverrunEnd_lane (s : State) (l m : Fin 8) : (evalOverrunEnd s l).lane m = if m = l then
    { s.lane l with overrun := (s.lane l).overrun && decide (s.opts.laneAE < (s.lane l).queue.length) } else s.lane m := by
  unfold evalOverrunEnd
  dsimp only
  split
  next h =>
    rw [State.setLane_lane, decide_eq_false (Nat.not_lt.mpr h), Bool.and_false]
  next h =>
    rw [decide_eq_true (Nat.not_le.mp h), Bool.and_true]
    split
    next hm => rw [hm]
    next => rfl

theorem evalOverrunEnd_lanesOnly (s : State) (l : Fin 8) : LanesOnly s (evalOverrunEnd s l) := by
  unfold evalOverrunEnd
  dsimp only
  split
  · exact ⟨rfl, rfl, rfl⟩
  · exact .refl s

theorem evalLaneThresholds_attached {l : Fin 8} (h : (s.lane l).mode ≠ .detached) :
    evalLaneThresholds s l = evalPause (evalOverrunEnd s l) l := if_neg h

theorem evalLaneThresholds_lanesOnly (s : State) (l : Fin 8) : LanesOnly s (evalLaneThresholds s l) := by
  by_cases h : (s.lane l).mode = .detached
  · rw [evalLaneThresholds, if_pos h]
    exact .refl s
  · rw [evalLaneThresholds_attached h]
    obtain ⟨-, hfield, hnext⟩ := evalPause_spec (evalOverrunEnd s l) l
    exact (evalOverrunEnd_lanesOnly s l).trans ⟨hnext, by rw [hfield], evalPause_frame _ l⟩

/-- Both steps of the thresholds, for a lane that is not DETACHED. -/
theorem evalLaneThresholds_parts {l : Fin 8} (h : (s.lane l).mode ≠ .detached) (m : Fin 8) :
    (evalLaneThresholds s l).lane m = (if m = l then (reevaluated (lanesThresholds s l)).2.1 else s.lane m) ∧
    (evalLaneThresholds s l).field = { s.field with
      signals := s.field.signals.set l.val (reevaluated (lanesThresholds s l)).2.2 l.isLt } := by
  have hover := evalOverrunEnd_lane s l
  have honly := (evalOverrunEnd_lanesOnly s l).rest
  have hopts : (evalOverrunEnd s l).opts = s.opts := by rw [honly]
  have hfield : (evalOverrunEnd s l).field = s.field := by unfold evalOverrunEnd; dsimp only; split <;> rfl
  have hre : reevaluated (lanesThresholds s l) = (s.opts,
      { s.lane l with
        paused := (pausesAt s.opts [(s.lane l).queue.length] (s.lane l).paused s.field.signals[l.val]).1
        overrun := (s.lane l).overrun && decide (s.opts.laneAE < (s.lane l).queue.length) },
      (pausesAt s.opts [(s.lane l).queue.length] (s.lane l).paused s.field.signals[l.val]).2) := if_neg h
  obtain ⟨hlane, hsignals, -⟩ := evalPause_spec (evalOverrunEnd s l) l
  rw [hopts, hfield] at hsignals
  rw [hover l, if_pos rfl] at hsignals
  rw [evalLaneThresholds_attached h, hre]
  refine ⟨?_, hsignals⟩
  rw [hlane, hopts, hfield, hover l, if_pos rfl]
  split
  · rfl
  next hm => rw [hover, if_neg hm]

theorem evalLaneThresholds_own (s : State) (l : Fin 8) :
    lanesThresholds (evalLaneThresholds s l) l = reevaluated (lanesThresholds s l) := by
  by_cases h : (s.lane l).mode = .detached
  · rw [evalLaneThresholds, if_pos h, reevaluated, if_pos (by exact h)]
  · obtain ⟨hlane, hfield⟩ := evalLaneThresholds_parts h l
    have hopts : (evalLaneThresholds s l).opts = s.opts := by rw [(evalLaneThresholds_lanesOnly s l).rest]
    have hfirst : (reevaluated (lanesThresholds s l)).1 = s.opts := by rw [reevaluated, if_neg (by exact h)]; rfl
    unfold lanesThresholds
    rw [hlane, if_pos rfl, hopts, hfield, Vector.getElem_set_self]
    exact Prod.ext hfirst.symm rfl

theorem evalLaneThresholds_other (s : State) (l m : Fin 8) (hml : m ≠ l) :
    lanesThresholds (evalLaneThresholds s l) m = lanesThresholds s m := by
  by_cases h : (s.lane l).mode = .detached
  · rw [evalLaneThresholds, if_pos h]
  · obtain ⟨hlane, hfield⟩ := evalLaneThresholds_parts h m
    have hopts : (evalLaneThresholds s l).opts = s.opts := by rw [(evalLaneThresholds_lanesOnly s l).rest]
    unfold lanesThresholds
    rw [hlane, if_neg hml, hopts, hfield, Vector.getElem_set_ne l.isLt m.isLt fun hv => hml (Fin.ext hv.symm)]

/-- The thresholds of all lanes evaluated (R177). -/
def thresholdsEvaluated (s : State) : State := lanesInOrder.foldl evalLaneThresholds s

theorem thresholdsEvaluated_lane (s : State) (l : Fin 8) :
    lanesThresholds (thresholdsEvaluated s) l = reevaluated (lanesThresholds s l) := by
  rw [thresholdsEvaluated, foldl_lanes lanesThresholds evalLaneThresholds reevaluated evalLaneThresholds_own
    evalLaneThresholds_other _ lanesInOrder_nodup, if_pos (mem_lanesInOrder l)]

theorem thresholdsEvaluated_only (s : State) : LanesOnly s (thresholdsEvaluated s) :=
  .foldl evalLaneThresholds_lanesOnly lanesInOrder s

/-! ### A value written -/

/-- A new value stored in its word, with the edges it makes (R176). -/
def wordStored (s : State) (w : OptionWord) (v : Int) : State :=
  withEdges s fun s => { s with opts := storeOption s.opts w v }

theorem wordStored_frame (s : State) (w : OptionWord) (v : Int) : wordStored s w v =
    { s with opts := storeOption s.opts w v, notices := (wordStored s w v).notices } := rfl

/-- Storing the value already stored changes nothing (R176). -/
theorem writeWord_same (h : storeOption s.opts w v = s.opts) : writeWord s w v = s := if_pos h

theorem writeWord_new (h : storeOption s.opts w v ≠ s.opts) :
    writeWord s w v = reactToWrite s.opts w (wordStored s w v) := if_neg h

theorem reactToWrite_laneEnable (s : State) (o : Options) :
    reactToWrite o .laneEnable s = detachLanes (disabledLanes o s.opts) s := rfl

theorem reactToWrite_thresholds (s : State) (o : Options) (h : w = .laneAF ∨ w = .laneAE) :
    reactToWrite o w s = thresholdsEvaluated s := by rcases h with rfl | rfl <;> rfl

theorem reactToWrite_fqResume (s : State) (o : Options) : reactToWrite o .fqResume s = resumeEngine s := rfl

theorem reactToWrite_other (s : State) (o : Options)
    (h : w ≠ .laneEnable ∧ w ≠ .laneAF ∧ w ≠ .laneAE ∧ w ≠ .fqResume) : reactToWrite o w s = s := by
  obtain ⟨henable, haf, hae, hresume⟩ := h
  cases w with
  | laneEnable => exact absurd rfl henable
  | laneAF => exact absurd rfl haf
  | laneAE => exact absurd rfl hae
  | fqResume => exact absurd rfl hresume
  | _ => rfl

theorem reactToWrite_frame (s : State) (o : Options) (w : OptionWord) : reactToWrite o w s = { s with
    lanes := (reactToWrite o w s).lanes, field := (reactToWrite o w s).field, store := (reactToWrite o w s).store
    pool := (reactToWrite o w s).pool, settle := (reactToWrite o w s).settle, findq := (reactToWrite o w s).findq
    notices := (reactToWrite o w s).notices } := by
  have hthresholds := (thresholdsEvaluated_only s).rest
  by_cases h : w ≠ .laneEnable ∧ w ≠ .laneAF ∧ w ≠ .laneAE ∧ w ≠ .fqResume
  · rw [reactToWrite_other s o h]
  · simp only [not_and_or, not_not] at h
    rcases h with rfl | rfl | rfl | rfl
    · have h := detachLanes_frame s (disabledLanes o s.opts)
      rw [reactToWrite_laneEnable]
      generalize detachLanes (disabledLanes o s.opts) s = u at h ⊢
      rw [h]
    · rw [reactToWrite_thresholds s o (.inl rfl)]
      generalize thresholdsEvaluated s = u at hthresholds ⊢
      rw [hthresholds]
    · rw [reactToWrite_thresholds s o (.inr rfl)]
      generalize thresholdsEvaluated s = u at hthresholds ⊢
      rw [hthresholds]
    · have h := resumeEngine_frame s
      rw [reactToWrite_fqResume]
      generalize resumeEngine s = u at h ⊢
      rw [h]

/-- A write leaves the Request Queue, the Circulation Unit, the Trunk Port, the clock and the knots. -/
theorem writeWord_frame (s : State) (w : OptionWord) (v : Int) : writeWord s w v = { s with
    opts := storeOption s.opts w v, lanes := (writeWord s w v).lanes, field := (writeWord s w v).field
    store := (writeWord s w v).store, pool := (writeWord s w v).pool, settle := (writeWord s w v).settle
    findq := (writeWord s w v).findq, notices := (writeWord s w v).notices } := by
  by_cases h : storeOption s.opts w v = s.opts
  · rw [writeWord_same h, h]
  · rw [writeWord_new h]
    have hreact := reactToWrite_frame (wordStored s w v) s.opts w
    generalize reactToWrite s.opts w (wordStored s w v) = u at hreact
    rw [hreact]
    rfl

/-- No condition depends on FQ_RESUME (R182). -/
theorem wordStored_fqResume (s : State) (v : Int) :
    wordStored s .fqResume v = { s with opts := storeOption s.opts .fqResume v } :=
  noteEdges_same _ _ rfl

end

end Sys2Proof.Machine
end

section
/-! The writing OPTION rows and READ_STATUS, assembled from what they store and report (R27, R84, R175 to R179). -/

namespace Sys2Proof.Machine

section
variable {s : State} {before after : List Slot} {sl : Slot} {w : OptionWord} {v : Int}

/-! ### The writing rows -/

/-- What a write, a SET or a CLEAR leaves: the value is stored, and the reply carries the stored value (R176). -/
theorem Waiting.exec_write {op own : Nat} {value : BitVec 32} {i : Instr}
    (hw : Waiting s before sl after (.option op (wordCode w) value)) (hop : op = own ∧ own ≤ 3)
    (hi : own = 0 ∧ i = .optionRead ∨ own = 1 ∧ i = .optionWrite ∨ own = 2 ∧ i = .optionSet ∨ own = 3 ∧ i = .optionClear)
    (hv : computedValue op (readOption s.opts w) value = some v) :
    ∃ t, exec i s = .next t ∧
      Answers s t before sl after 0x03 .ok none (.option (wordCode w) (readOption (storeOption s.opts w v) w)) ∧
      t = { writeWord (served s before sl after) w v with requests := t.requests } := by
  have hframe := writeWord_frame (served s before sl after) w v
  have hopts : (writeWord (served s before sl after) w v).opts = storeOption s.opts w v := by rw [hframe]; rfl
  obtain ⟨hreply, hstate⟩ := hw.answers (option_writes (hop.1.le.trans hop.2) w hv) (by rw [hframe])
  rw [hopts] at hreply
  exact ⟨_, hw.exec_option hi (.inl hop.1), hreply, hstate⟩

/-- The three writing operations and what they compute. -/
theorem computedValue_of {op own : Nat} {value : BitVec 32} {x : Int} {i : Instr} {computed : Int}
    (h : op = 1 ∧ i = .optionWrite ∧ computed = value.toInt ∨
      op = 2 ∧ i = .optionSet ∧ computed = (BitVec.ofInt 32 x ||| value).toInt ∨
      op = 3 ∧ i = .optionClear ∧ computed = (BitVec.ofInt 32 x &&& ~~~value).toInt) (hown : own = op) :
    own ≤ 3 ∧ computedValue op x value = some computed ∧
      (own = 0 ∧ i = .optionRead ∨ own = 1 ∧ i = .optionWrite ∨ own = 2 ∧ i = .optionSet ∨ own = 3 ∧ i = .optionClear) := by
  subst hown
  rcases h with ⟨rfl, rfl, rfl⟩ | ⟨rfl, rfl, rfl⟩ | ⟨rfl, rfl, rfl⟩
  · exact ⟨by decide, rfl, .inr (.inl ⟨rfl, rfl⟩)⟩
  · exact ⟨by decide, rfl, .inr (.inr (.inl ⟨rfl, rfl⟩))⟩
  · exact ⟨by decide, rfl, .inr (.inr (.inr ⟨rfl, rfl⟩))⟩

theorem wordCode_injective {w w' : OptionWord} (h : wordCode w = wordCode w') : w = w' :=
  Option.some.inj ((optionWord_wordCode w).symm.trans ((congrArg optionWord h).trans (optionWord_wordCode w')))

/-- A code that is no word's has no value. -/
theorem wordValue_none {code : Nat} (h : ∀ w, code ≠ wordCode w) (o : Options) : wordValue o code = none := by
  rw [Option.eq_none_iff_forall_ne_some]
  intro x hx
  obtain ⟨w, hw, -⟩ := code_of_wordValue hx
  exact h w hw

/-- The thresholds after a new LANE_AF or LANE_AE, lane by lane (R177). -/
theorem thresholdsEvaluated_spec (s : State) (l : Fin 8) :
    ((s.lane l).mode = .detached → (thresholdsEvaluated s).lane l = s.lane l ∧
      (thresholdsEvaluated s).field.signals[l.val] = s.field.signals[l.val]) ∧
    ((s.lane l).mode ≠ .detached →
      let y := pausesAt s.opts [(s.lane l).queue.length] (s.lane l).paused s.field.signals[l.val]
      (thresholdsEvaluated s).lane l = { s.lane l with
        paused := y.1, overrun := (s.lane l).overrun && decide (s.opts.laneAE < (s.lane l).queue.length) } ∧
      (thresholdsEvaluated s).field.signals[l.val] = y.2) := by
  have hlane := thresholdsEvaluated_lane s l
  constructor <;> intro hm
  · rw [reevaluated, if_pos (by exact hm)] at hlane
    exact ⟨congrArg (fun x => x.2.1) hlane, congrArg (fun x => x.2.2) hlane⟩
  · rw [reevaluated, if_neg (by exact hm)] at hlane
    exact ⟨congrArg (fun x => x.2.1) hlane, congrArg (fun x => x.2.2) hlane⟩

/-- A new LANE_AF or LANE_AE stored: every lane's thresholds are those of the new words (R54 to R57, R177). -/
theorem writeWord_thresholds (hw : w = .laneAF ∨ w = .laneAE) (hne : storeOption s.opts w v ≠ s.opts) :
    ∃ u, writeWord s w v = u ∧
    (∀ l : Fin 8, (s.lane l).mode = .detached →
      u.lane l = s.lane l ∧ u.field.signals[l.val] = s.field.signals[l.val]) ∧
    (∀ l : Fin 8, (s.lane l).mode ≠ .detached →
      let y := pausesAt (storeOption s.opts w v) [(s.lane l).queue.length] (s.lane l).paused s.field.signals[l.val]
      u.lane l = { s.lane l with
        paused := y.1
        overrun := (s.lane l).overrun && decide ((storeOption s.opts w v).laneAE < (s.lane l).queue.length) } ∧
      u.field.signals[l.val] = y.2) ∧
    LanesOnly (wordStored s w v) u := by
  have hspec := thresholdsEvaluated_spec (wordStored s w v)
  have honly := thresholdsEvaluated_only (wordStored s w v)
  have hwrite : writeWord s w v = thresholdsEvaluated (wordStored s w v) :=
    (writeWord_new hne).trans (reactToWrite_thresholds _ _ hw)
  generalize thresholdsEvaluated (wordStored s w v) = u at hspec honly hwrite
  exact ⟨u, hwrite, fun l => (hspec l).1, fun l => (hspec l).2, honly⟩

/-- A new FQ_RESUME stored: the resumption is evaluated with it (R116, R177). -/
theorem writeWord_fqResume (hne : storeOption s.opts .fqResume v ≠ s.opts) :
    writeWord s .fqResume v = resumeEngine { s with opts := storeOption s.opts .fqResume v } := by
  rw [writeWord_new hne, reactToWrite_fqResume, wordStored_fqResume]

/-- A write to any other word but LANE_ENABLE: the value stored, and the edges it makes (R177). -/
theorem writeWord_plain (h : w ≠ .laneEnable ∧ w ≠ .laneAF ∧ w ≠ .laneAE ∧ w ≠ .fqResume) :
    writeWord s w v = { s with opts := storeOption s.opts w v, notices := (writeWord s w v).notices } := by
  by_cases hne : storeOption s.opts w v = s.opts
  · rw [writeWord_same hne, hne]
  · rw [writeWord_new hne, reactToWrite_other _ _ h]
    rfl

/-! ### LANE_ENABLE (R27) -/

theorem getLsbD_ofInt_toInt (b : BitVec 32) {i : Nat} (hi : i < 8) :
    (BitVec.ofInt 8 b.toInt).getLsbD i = b.getLsbD i := by
  have hext : BitVec.ofInt 8 b.toInt = b.signExtend 8 := rfl
  rw [hext, BitVec.getLsbD_signExtend, decide_eq_true hi, if_pos (by omega), Bool.true_and]

theorem getLsbD_ofInt_toNat (b : BitVec 8) {i : Nat} (hi : i < 8) :
    (BitVec.ofInt 32 (b.toNat : Int)).getLsbD i = b.getLsbD i := by
  rw [BitVec.ofInt_natCast, BitVec.getLsbD_ofNat, decide_eq_true (by omega), Bool.true_and, BitVec.testBit_toNat]

/-- The enabled bits after each of the three operations (R176). -/
theorem laneEnable_computed {op : Nat} {value : BitVec 32} {computed : Int} {b : BitVec 8}
    (h : computedValue op (b.toNat : Int) value = some computed) (l : Fin 8) :
    (BitVec.ofInt 8 computed).getLsbD l.val =
      if op = 1 then value.getLsbD l.val
      else if op = 2 then b.getLsbD l.val || value.getLsbD l.val
      else b.getLsbD l.val && !value.getLsbD l.val := by
  have hl := l.isLt
  have hop : op = 1 ∨ op = 2 ∨ op = 3 := by
    unfold computedValue at h
    split at h
    · exact .inl rfl
    · exact .inr (.inl rfl)
    · exact .inr (.inr rfl)
    · exact nomatch h
  rcases hop with rfl | rfl | rfl <;> obtain rfl := Option.some.inj h
  · exact getLsbD_ofInt_toInt value hl
  · rw [setBits, getLsbD_ofInt_toInt _ hl, BitVec.getLsbD_or, getLsbD_ofInt_toNat b hl]
    rfl
  · rw [clearBits, getLsbD_ofInt_toInt _ hl, BitVec.getLsbD_and, getLsbD_ofInt_toNat b hl, BitVec.getLsbD_not,
      decide_eq_true (by omega), Bool.true_and]
    rfl

theorem mem_disabledLanes (old new : Options) (l : Fin 8) :
    l ∈ disabledLanes old new ↔ (old.laneEnable.getLsbD l.val && !new.laneEnable.getLsbD l.val) = true := by
  unfold disabledLanes
  rw [List.mem_filter]
  exact ⟨And.right, fun h => ⟨mem_lanesInOrder l, h⟩⟩

/-- A write of LANE_ENABLE, whether or not it changes the word, detaches what it disables (R27). -/
theorem writeWord_laneEnable (hs : OwnersOk s) (v : Int) : Detaches s (writeWord s .laneEnable v)
    fun l => s.opts.laneEnable.getLsbD l.val && !(storeOption s.opts .laneEnable v).laneEnable.getLsbD l.val := by
  by_cases hsame : storeOption s.opts .laneEnable v = s.opts
  · have hnone : (fun l : Fin 8 => s.opts.laneEnable.getLsbD l.val &&
        !(storeOption s.opts .laneEnable v).laneEnable.getLsbD l.val) = fun _ => false := by
      funext l
      rw [hsame, Bool.and_not_self]
    rw [writeWord_same hsame, hnone]
    exact .nil s
  · have hstored : OwnersOk (wordStored s .laneEnable v) := hs.congr rfl rfl rfl
    have hsorted : (disabledLanes s.opts (storeOption s.opts .laneEnable v)).Pairwise (· < ·) :=
      List.Pairwise.filter _ (show lanesInOrder.Pairwise (· < ·) by decide)
    have hdetaches := detachLanes_detaches hstored _ hsorted
    have hgone : (fun l => decide (l ∈ disabledLanes s.opts (storeOption s.opts .laneEnable v))) = fun l : Fin 8 =>
        s.opts.laneEnable.getLsbD l.val && !(storeOption s.opts .laneEnable v).laneEnable.getLsbD l.val := by
      funext l
      rw [Bool.eq_iff_iff, decide_eq_true_iff, mem_disabledLanes]
    rw [writeWord_new hsame, reactToWrite_laneEnable, ← hgone]
    exact hdetaches.congr rfl rfl

theorem writeWord_laneEnable_frame (s : State) (v : Int) : writeWord s .laneEnable v = { s with
    opts := storeOption s.opts .laneEnable v, lanes := (writeWord s .laneEnable v).lanes
    field := (writeWord s .laneEnable v).field, store := (writeWord s .laneEnable v).store
    pool := (writeWord s .laneEnable v).pool, settle := (writeWord s .laneEnable v).settle
    notices := (writeWord s .laneEnable v).notices } := by
  by_cases hsame : storeOption s.opts .laneEnable v = s.opts
  · rw [writeWord_same hsame, hsame]
  · have h := detachLanes_frame (wordStored s .laneEnable v) (disabledLanes s.opts (wordStored s .laneEnable v).opts)
    rw [writeWord_new hsame, reactToWrite_laneEnable]
    generalize detachLanes (disabledLanes s.opts (wordStored s .laneEnable v).opts) (wordStored s .laneEnable v) = u at h ⊢
    rw [h]
    rfl

end

/-- Settles O24: the value stored says which lanes `detachLanes_detaches` takes. -/
theorem laneEnableWriteDetachesLanes : Obligations.LaneEnableWriteDetachesLanes := by
  intro s before after sl op value i hclaims hw hop
  obtain ⟨computed, hcomputed⟩ : ∃ computed, op = 1 ∧ i = .optionWrite ∧ computed = value.toInt ∨
      op = 2 ∧ i = .optionSet ∧ computed = (BitVec.ofInt 32 (readOption s.opts .laneEnable) ||| value).toInt ∨
      op = 3 ∧ i = .optionClear ∧ computed = (BitVec.ofInt 32 (readOption s.opts .laneEnable) &&& ~~~value).toInt := by
    rcases hop with ⟨rfl, rfl⟩ | ⟨rfl, rfl⟩ | ⟨rfl, rfl⟩
    · exact ⟨_, .inl ⟨rfl, rfl, rfl⟩⟩
    · exact ⟨_, .inr (.inl ⟨rfl, rfl, rfl⟩)⟩
    · exact ⟨_, .inr (.inr ⟨rfl, rfl, rfl⟩)⟩
  obtain ⟨hle, hv, hi⟩ := computedValue_of hcomputed rfl
  have hw' : Waiting s before sl after (.option op (wordCode .laneEnable) value) := hw
  obtain ⟨t, hexec, -, hstate⟩ := hw'.exec_write ⟨rfl, hle⟩ hi hv
  have howners : OwnersOk (served s before sl after) := hclaims.owners.congr rfl rfl rfl
  have hdetaches := writeWord_laneEnable howners computed
  have hframe := writeWord_laneEnable_frame (served s before sl after) computed
  generalize writeWord (served s before sl after) .laneEnable computed = u at hstate hdetaches hframe
  have hopts : t.opts = storeOption s.opts .laneEnable computed := by rw [hstate, hframe]; rfl
  refine ⟨t, hexec, fun l => ?_, ?_, ?_⟩
  · rw [hopts]
    exact laneEnable_computed hv l
  · rw [hopts]
    exact hdetaches.congr rfl (by rw [hstate])
  · rw [hstate, hframe]
    rfl

/-- Settles O23: `readOption_store` says what is stored, `writeWord_frame` what stays, and the reaction is that of the
word. -/
theorem optionWritesStoreTheComputedValue : Obligations.OptionWritesStoreTheComputedValue := by
  intro s before after sl op code value x i computed ho hx hw hop
  obtain ⟨w, rfl, rfl⟩ := code_of_wordValue hx
  obtain ⟨hle, hv, hi⟩ := computedValue_of hop rfl
  obtain ⟨t, hexec, hreply, hstate⟩ := hw.exec_write ⟨rfl, hle⟩ hi hv
  have hframe := writeWord_frame (served s before sl after) w computed
  have hopts : t.opts = storeOption s.opts w computed := by rw [hstate, hframe]; rfl
  have hcode {w' : OptionWord} (h : wordCode w = wordCode w') : w = w' := wordCode_injective h
  rw [readOption_store ho] at hreply
  refine ⟨t, hexec, ?_, hreply, fun haf => ?_, fun other hother hae => ?_, ?_, ?_, ?_, ?_, fun hsame => ?_,
    fun hword hne => ?_, fun hword hne => ?_, fun h1 h2 h3 hD => ?_⟩
  · rw [hopts, wordValue_wordCode, readOption_store ho]
  · obtain rfl : w = .laneAF := hcode haf
    rw [hopts]
    exact storeOption_laneAF s.opts computed
  · by_cases hword : ∃ w', other = wordCode w'
    · obtain ⟨w', rfl⟩ := hword
      rw [wordValue_wordCode, wordValue_wordCode, hopts, readOption_store_other]
      · exact fun heq => hother (congrArg wordCode heq)
      · rintro ⟨rfl, rfl⟩
        exact hae ⟨rfl, rfl⟩
    · have hnone (w' : OptionWord) : other ≠ wordCode w' := fun h => hword ⟨w', h⟩
      rw [wordValue_none hnone, wordValue_none hnone]
  · rw [hstate, hframe]; rfl
  · rw [hstate, hframe]; rfl
  · rw [hstate, hframe]; rfl
  · rw [hstate, hframe]; rfl
  · rw [hopts] at hsame
    rw [hstate, writeWord_same (s := served s before sl after) hsame]
    rfl
  · have hw' : w = .laneAF ∨ w = .laneAE :=
      hword.imp (fun h => hcode (w' := .laneAF) h) fun h => hcode (w' := .laneAE) h
    rw [hopts] at hne
    obtain ⟨u, hu, hdetached, hattached, hnext, hfield, hrest⟩ :=
      writeWord_thresholds (s := served s before sl after) hw' hne
    rw [hu] at hstate
    have hlane (l : Fin 8) : t.lane l = u.lane l := by rw [hstate]; rfl
    have hport : t.field = u.field := by rw [hstate]
    have hlanes : t.lanes = u.lanes := by rw [hstate]
    refine ⟨fun l hm => ?_, fun l hm => ?_, ?_, ?_, ?_⟩
    · rw [hlane, hport]; exact hdetached l hm
    · rw [hlane, hport, hopts]; exact hattached l hm
    · rw [hport]; exact hfield
    · rw [hlanes]; exact hnext
    · rw [hstate, hrest]; rfl
  · obtain rfl : w = .fqResume := hcode hword
    rw [hopts] at hne
    have hslots := resumeEngine_setSlots { s with opts := storeOption s.opts .fqResume computed }
      (served s before sl after).requests.slots
    have hresumed : writeWord (served s before sl after) .fqResume computed = _ :=
      (writeWord_fqResume (s := served s before sl after) hne).trans hslots
    rw [hresumed] at hstate
    refine ⟨_, rfl, ?_⟩
    rw [hopts, hstate]
    rfl
  · have hother : w ≠ .laneEnable ∧ w ≠ .laneAF ∧ w ≠ .laneAE ∧ w ≠ .fqResume :=
      ⟨fun h => h1 (congrArg wordCode h), fun h => h2 (congrArg wordCode h), fun h => h3 (congrArg wordCode h),
        fun h => hD (congrArg wordCode h)⟩
    have hplain := writeWord_plain (s := served s before sl after) (v := computed) hother
    generalize writeWord (served s before sl after) w computed = u at hstate hplain
    rw [hstate, hplain]
    rfl

end Sys2Proof.Machine
end

section
/-! READ_STATUS: the figures of each section (R84, R179). -/

namespace Sys2Proof.Machine

section
variable {s : State} {before after : List Slot} {sl : Slot} {n : Nat}

theorem Waiting.exec_readStatus (hw : Waiting s before sl after (.readStatus n)) :
    exec .readStatus s = .next (serveNow s (readStatus n)) := by
  change execReadStatus s = _
  simp only [execReadStatus, hw.next]

theorem readStatus_section {body : ReplyBody} (h : statusSection s n = some body) :
    readStatus n s = (s, { status := .ok, body := body }) := by
  unfold readStatus; rw [h]

theorem readStatus_bad (h : 6 < n) : readStatus n s = (s, { status := .badArgument }) := by
  obtain ⟨k, rfl⟩ : ∃ k, n = k + 7 := ⟨n - 7, by omega⟩
  rfl

theorem statusSection_isSome (s : State) (h : n ≤ 6) : ∃ body, statusSection s n = some body := by
  interval_cases n <;> exact ⟨_, rfl⟩

/-- The slots in a state, while the request answered is IN_SERVICE (R173, log entry 13). -/
theorem countSlots_served (test : SlotState → Bool) : countSlots (served s before sl after) test =
    (before ++ after).countP (fun x => test x.state) + (if test (.inService .atOnce) then 1 else 0) := by
  change (before ++ { sl with state := .inService .atOnce } :: after).countP (fun x => test x.state) = _
  rw [List.countP_append, List.countP_append, List.countP_cons, Nat.add_assoc]

theorem signalBits_getLsbD (s : State) (sig : Signal) (l : Fin 8) :
    (signalBits s sig).getLsbD l.val = decide (s.field.signals[l.val] = some sig) := by
  unfold signalBits
  rw [BitVec.getLsbD_ofNat, testBit_bitsToNat, decide_eq_true l.isLt, Bool.true_and]
  simp

/-- Section 0, beside what it reads off the state directly (R171, R179). -/
theorem deviceFigures_slots (hw : Waiting s before sl after (.readStatus n)) :
    let f := deviceFigures (served s before sl after)
    f.slotsFree = 8 - s.requests.slots.length ∧
    f.slotsPending = (before ++ after).countP (fun x => decide (x.state = .pending)) ∧
    f.slotsInService = 1 + (before ++ after).countP (fun x => x.state matches .inService _) ∧
    f.slotsReplyReady = (before ++ after).countP (fun x => x.state matches .replyReady _) ∧
    f.slotsSending = (before ++ after).countP (fun x => x.state matches .sending _) := by
  have hlength : (served s before sl after).requests.slots.length = s.requests.slots.length := by
    rw [hw.slots]
    simp [served, State.setSlots]
  refine ⟨congrArg (8 - ·) hlength, ?_, ?_, ?_, ?_⟩
  · exact countSlots_served fun st => decide (st = .pending)
  · exact (countSlots_served fun st => st matches .inService _).trans (Nat.add_comm _ _)
  · exact countSlots_served fun st => st matches .replyReady _
  · exact countSlots_served fun st => st matches .sending _

/-- The three context states number the contexts (R84). -/
theorem contextCodes_total (cs : List (Option Context)) : cs.countP (fun c => decide (contextCode c = 0)) +
    cs.countP (fun c => decide (contextCode c = 1)) + cs.countP (fun c => decide (contextCode c = 2)) = cs.length := by
  induction cs with
  | nil => rfl
  | cons c cs ih =>
    have hcode : contextCode c = 0 ∨ contextCode c = 1 ∨ contextCode c = 2 := by
      cases c with
      | none => exact .inl rfl
      | some ctx =>
        unfold contextCode
        cases hp : ctx.phase with
        | opened l => simp only [hp]; exact .inr (.inl trivial)
        | closed l cause => simp only [hp]; exact .inr (.inr trivial)
    simp only [List.countP_cons, List.length_cons, decide_eq_true_eq]
    rcases hcode with h | h | h <;> simp [h] <;> omega

theorem contextCode_eq_zero (c : Option Context) : decide (contextCode c = 0) = c.isNone := by
  cases c with
  | none => rfl
  | some ctx =>
    unfold contextCode
    cases hp : ctx.phase <;> simp [hp]

/-- The contexts reported stand in increasing number (R84). -/
theorem contextsInUse_pairwise (s : State) (test : Fin 16 → Bool) :
    (contextsInUse s test).Pairwise fun a b => a.1 < b.1 := by
  have hrising : contextsInOrder.Pairwise (· < ·) := by decide
  unfold contextsInUse
  rw [List.pairwise_filterMap]
  refine hrising.imp fun {c d} hlt x hx y hy => ?_
  have hfst {e : Fin 16} {z : Fin 16 × Context}
      (h : (if test e = true then (s.context e).map fun ctx => (e, ctx) else none) = some z) : z.1 = e := by
    split at h
    · obtain ⟨ctx, -, rfl⟩ := Option.map_eq_some_iff.mp h
      rfl
    · exact nomatch h
  rwa [hfst hx, hfst hy]

/-- Sections 2 and 3 (R84). -/
theorem poolFigures_spec (s : State) (test : Fin 16 → Bool) :
    let f := poolFigures s test
    f.free + f.opened + f.closed = 16 ∧ f.free = s.pool.contexts.toList.countP (·.isNone) ∧
    f.contexts.Pairwise (fun a b => a.1 < b.1) ∧
    ∀ c ctx, (c, ctx) ∈ f.contexts ↔ test c = true ∧ s.context c = some ctx := by
  refine ⟨(contextCodes_total s.pool.contexts.toList).trans (Vector.length_toList ..), ?_, contextsInUse_pairwise s test,
    fun c ctx => mem_contextsInUse s test c ctx⟩
  exact List.countP_congr fun c _ => by rw [contextCode_eq_zero]

end

/-- Settles O21: the request changes its slot alone, and each section is read off the state as it stands. -/
theorem readStatusReportsItsSection : Obligations.ReadStatusReportsItsSection := by
  intro s before after sl n hw
  refine ⟨fun hn => ?_, fun hn => ?_⟩
  · obtain ⟨hreply, hframe⟩ := hw.only (readStatus n) { status := .badArgument } (readStatus_bad hn)
    exact ⟨_, hw.exec_readStatus, hreply, hframe⟩
  obtain ⟨body, hbody⟩ := statusSection_isSome (served s before sl after) hn
  obtain ⟨hreply, hframe⟩ := hw.only (readStatus n) { status := .ok, body := body } (readStatus_section hbody)
  refine ⟨_, body, hw.exec_readStatus, hreply, hframe, ?_, ?_, ?_, ?_, ?_, ?_⟩
  · rintro rfl
    obtain rfl := Option.some.inj hbody
    obtain ⟨hfree, hpending, hservice, hready, hsending⟩ := deviceFigures_slots hw
    exact ⟨_, rfl, rfl, rfl, rfl, rfl, rfl, rfl, rfl, rfl, signalBits_getLsbD s .pause, signalBits_getLsbD s .resume, rfl,
      hfree, hpending, hservice, hready, hsending, served_liveConditions, rfl⟩
  · rintro rfl
    obtain rfl := Option.some.inj hbody
    refine ⟨_, rfl, by simp, fun l => ?_⟩
    have hlane : (served s before sl after).lanes.recs.toList[l.val]? = some (s.lane l) := by
      simp [State.lane, served, State.setSlots]
    rw [List.getElem?_map, hlane]
    rfl
  · rintro (rfl | rfl) <;> obtain rfl := Option.some.inj hbody
    · obtain ⟨hsum, hfree, hpairwise, hmem⟩ := poolFigures_spec (served s before sl after) fun c => decide (c < 8)
      refine ⟨_, rfl, rfl, hsum, hfree, rfl, rfl, hpairwise, fun c ctx => (hmem c ctx).trans (and_congr_left' ?_)⟩
      rw [decide_eq_true_iff, Fin.lt_def]
      exact ⟨fun h => ⟨fun _ => h, fun _ => rfl⟩, fun h => h.mp rfl⟩
    · obtain ⟨hsum, hfree, hpairwise, hmem⟩ := poolFigures_spec (served s before sl after) fun c => decide (8 ≤ c)
      refine ⟨_, rfl, rfl, hsum, hfree, rfl, rfl, hpairwise, fun c ctx => (hmem c ctx).trans (and_congr_left' ?_)⟩
      rw [decide_eq_true_iff, Fin.le_def]
      exact ⟨fun h => ⟨fun he => absurd he (by decide), fun hlt => absurd h (Nat.not_le.mpr hlt)⟩,
        fun h => Nat.not_lt.mp fun hlt => absurd (h.mpr hlt) (by decide)⟩
  · rintro rfl
    obtain rfl := Option.some.inj hbody
    rfl
  · rintro rfl
    obtain rfl := Option.some.inj hbody
    rfl
  · rintro rfl
    obtain rfl := Option.some.inj hbody
    rfl

end Sys2Proof.Machine
end

section
/-! The freeze, the results stage and the missing sweep of a settle (R19, R103, R112 to R119). -/

namespace Sys2Proof.Machine

section
variable {s t u : State} {w : Settle} {r : Segment} {c : Fin 16} {ctx : Context}

/-! ### The freeze (R19, R103) -/

/-- The context of a SETTLING segment (R66). -/
theorem settlingContext_eq {g : Nat} (hr : s.segment g = some r) (hp : r.phase = .settling c) (hc : s.context c = some ctx) :
    settlingContext s g = some (c, ctx) := by
  simp [settlingContext, hr, hp, hc]

theorem holdItems_item (s : State) (g : Nat) (os : List Observation) (i : Nat) : (holdItems s g os).item i =
    (s.item i).map fun it => { it with hold := it.hold || toHold g os i it } := by
  unfold State.item holdItems
  rw [tget_tmap]
  refine congrArg (fun f => Option.map f (tget s.store.items i)) (funext fun it => ?_)
  cases toHold g os i it <;> simp

/-- What is held at a freeze: the observed items, those at home, those located there (R19). -/
theorem toHold_iff (g : Nat) (os : List Observation) (i : Nat) (it : Item) : toHold g os i it = true ↔
    (∃ o ∈ os, o.item = some i) ∨ it.home = g ∨ ∃ p, it.placed = some p ∧ p.segment = g := by
  simp only [toHold, Bool.or_eq_true, List.any_eq_true, decide_eq_true_eq, Option.map_eq_some_iff, or_assoc]

/-! ### A stage goes on (R115, R116) -/

theorem goOn_goesOn (s : State) (w : Settle) (f : Option Finding) : GoesOn s (goOn s w f) w f := by
  cases f with
  | none => exact ⟨rfl, rfl, rfl⟩
  | some f =>
    rcases settlePush_cases s w f with ⟨hlt, heq⟩ | ⟨hge, hfindq, hsettle⟩
    · have hgo : goOn s w (some f) = (appendSettle s f).setSettle w := heq
      rw [hgo]
      exact ⟨rfl, fun _ => ⟨rfl, rfl⟩, fun hge => absurd hge (Nat.not_le.mpr hlt)⟩
    · have hgo : (goOn s w (some f)).settle = { s.settle with engine := .settling { w with kept := some f } } := hsettle
      refine ⟨by rw [hgo], fun hlt => absurd hge (Nat.not_le.mpr hlt), fun _ => ⟨by rw [hgo], hfindq⟩⟩

theorem settlePush_frame (s : State) (w : Settle) (f : Finding) : settlePush s w f = { s with
    settle := (settlePush s w f).settle, findq := (settlePush s w f).findq, notices := (settlePush s w f).notices } := by
  unfold settlePush
  split <;> rfl

theorem goOn_frame (s : State) (w : Settle) (f : Option Finding) : goOn s w f = { s with
    settle := (goOn s w f).settle, findq := (goOn s w f).findq, notices := (goOn s w f).notices } := by
  cases f with
  | none => rfl
  | some f => exact settlePush_frame s w f

/-- The stage goes on alike from a state with the same Findings Queue, clock and Settle Queue. -/
theorem GoesOn.congr {f : Option Finding} (h : GoesOn u t w f) (hfindq : u.findq = s.findq) (hclock : u.clock = s.clock)
    (hqueue : u.settle.queue = s.settle.queue) : GoesOn s t w f := by
  unfold GoesOn at h ⊢
  rw [← hfindq, ← hclock, ← hqueue]
  exact h

/-! ### The missing sweep's list (R117) -/

theorem placedHere_iff (rs : List Ruling) (i : Nat) : placedHere rs i = true ↔ PlacedBy rs i := by
  unfold placedHere PlacedBy
  rw [List.any_eq_true]
  refine exists_congr fun r => and_congr_right fun _ => ?_
  cases r.verdict with
  | placed j place moved => simp
  | _ => simp

/-- The keys of filtered records rise, and are those that pass. -/
theorem tfilter_keys {α : Type} (keep : Nat → α → Bool) (t : Table α) (h : Table.wf t) :
    ((tfilter keep t).map Prod.fst).Pairwise (· < ·) ∧
    ∀ i, i ∈ (tfilter keep t).map Prod.fst ↔ ∃ x, tget t i = some x ∧ keep i x = true := by
  refine ⟨tfilter_wf keep t h, fun i => ?_⟩
  rw [List.mem_map]
  constructor
  · rintro ⟨⟨j, x⟩, hmem, rfl⟩
    obtain ⟨hmem, hkeep⟩ := List.mem_filter.mp hmem
    exact ⟨x, (tget_eq_some t h j x).mpr hmem, hkeep⟩
  · rintro ⟨x, hx, hkeep⟩
    exact ⟨(i, x), List.mem_filter.mpr ⟨(tget_eq_some t h i x).mp hx, hkeep⟩, rfl⟩

theorem sweepList_sweeps (ht : Table.wf s.store.items) (g : Nat) (rs : List Ruling) : Sweeps s g rs (sweepList s g rs) := by
  obtain ⟨hhome, hhomes⟩ := tfilter_keys (fun i (it : Item) => decide (it.home = g) && !placedHere rs i) _ ht
  obtain ⟨haway, haways⟩ := tfilter_keys
    (fun i (it : Item) => !decide (it.home = g) && decide (it.placed.map (·.segment) = some g) && !placedHere rs i) _ ht
  have hnot (i : Nat) : (!placedHere rs i) = true ↔ ¬ PlacedBy rs i := by
    rw [← placedHere_iff, Bool.not_eq_true', Bool.not_eq_true]
  refine ⟨_, _, rfl, hhome, haway, fun i => (hhomes i).trans ?_, fun i => (haways i).trans ?_⟩
  · simp only [Bool.and_eq_true, decide_eq_true_eq, hnot]
    rfl
  · simp only [Bool.and_eq_true, decide_eq_true_eq, hnot, Bool.not_eq_true', decide_eq_false_iff_not,
      Option.map_eq_some_iff]
    constructor
    · rintro ⟨it, hit, ⟨hne, p, hp, hseg⟩, hplaced⟩
      exact ⟨it, p, hit, hne, hp, hseg, hplaced⟩
    · rintro ⟨it, p, hit, hne, hp, hseg, hplaced⟩
      exact ⟨it, hit, ⟨hne, p, hp, hseg⟩, hplaced⟩

/-- The stage after an observation (R102), where the items are those the sweep will see. -/
theorem afterResult_stageAfter (hitems : t.store.items = u.store.items) (ht : Table.wf u.store.items) (g : Nat)
    (rs todo : List Ruling) : StageAfter t g rs todo (afterResult u g rs todo) := by
  have hsweep : Sweeps t g rs (sweepList t g rs) := sweepList_sweeps (hitems ▸ ht) g rs
  have hlist : sweepList t g rs = sweepList u g rs := by unfold sweepList; rw [hitems]
  cases todo with
  | nil =>
    refine ⟨fun h => absurd rfl h, fun _ => ⟨_, hsweep, ?_⟩⟩
    rw [hlist]
    unfold afterResult
    dsimp only
    cases sweepList u g rs with
    | nil => rfl
    | cons i is => rfl
  | cons x todo => exact ⟨fun _ => rfl, fun h => nomatch h⟩

/-! ### The results stage (R112 to R115) -/

theorem nextCount_eq (r : Segment) : nextCount r.countNumber = newCount r := rfl

theorem Settles.exec_resultWrite (h : Settles s w r c ctx) {rs todo : List Ruling} {x : Ruling}
    (hstage : w.stage = .results rs (x :: todo)) :
    exec .settleResultWrite s = .next (writeResult s w r ctx rs todo x) := by
  change execSettleResultWrite s = _
  simp only [execSettleResultWrite, h.inSettle_eq, hstage]

theorem writeResult_unknown {rs todo : List Ruling} {x : Ruling} (hx : x.verdict = .unknown) :
    writeResult s w r ctx rs todo x = goOn s
      { w with stage := afterResult s w.segment rs todo
               tallies := { w.tallies with unknown := w.tallies.unknown + 1 } }
      (some (unknownFinding w.segment (newCount r) ctx.truncated x)) := by
  unfold writeResult
  rw [hx]
  rfl

theorem writeResult_crossRead {rs todo : List Ruling} {x : Ruling} (hx : x.verdict = .crossRead) :
    writeResult s w r ctx rs todo x = goOn s { w with stage := afterResult s w.segment rs todo } none := by
  unfold writeResult
  rw [hx]

theorem writeResult_placed {rs todo : List Ruling} {x : Ruling} {i : Nat} {place : Place} {moved : Option Moved}
    {it : Item} (hx : x.verdict = .placed i place moved) (hi : s.item i = some it) :
    ∃ v, v = s.setItem i (placedItem w.segment (newCount r) s.clock.value it x place) ∧
      writeResult s w r ctx rs todo x =
        goOn v { w with stage := afterResult v w.segment rs todo, tallies := tallyPlace w.tallies place }
          (placedFinding w.segment (newCount r) ctx.truncated i it x place moved) := by
  refine ⟨_, rfl, ?_⟩
  unfold writeResult
  rw [hx]
  dsimp only
  rw [hi]
  rfl

theorem placeResult_eq (p : Place) : placeResult p = resultOf p := by cases p <;> rfl

theorem tallyPlace_tallied (a : Tallies) (p : Place) : TalliedPlace a (tallyPlace a p) p := by
  cases p <;> rfl

theorem inConflict_iff (it : Item) (o : Observation) : inConflict it o = true ↔ Conflicts it o := by
  unfold inConflict Conflicts
  rw [Bool.and_eq_true, decide_eq_true_iff]
  refine and_congr_right fun _ => ?_
  cases it.statusTime with
  | none => simp
  | some t => simp

/-- The finding of a placed observation is the one R113 and R114 lay down. -/
theorem placedFinding_resultFinding (g n : Nat) (truncated : Bool) (i : Nat) (it : Item) (x : Ruling) {place : Place}
    (moved : Option Moved) (hplace : place ≠ .candidate) :
    ResultFinding g n truncated i it x place moved (placedFinding g n truncated i it x place moved) := by
  refine ⟨inConflict it x.observation, inConflict_iff it x.observation, ?_⟩
  dsimp only
  unfold placedFinding settleFinding
  rw [placeResult_eq]
  cases moved with
  | some m => exact ⟨fun m' hm => by rw [← Option.some.inj hm], nofun⟩
  | none =>
    refine ⟨nofun, fun _ => ?_⟩
    cases place with
    | candidate => exact absurd rfl hplace
    | inPlace =>
      refine ⟨nofun, nofun, fun _ => ⟨fun h => ?_, fun h => ?_⟩⟩
      · dsimp only; rw [if_pos h, h]
      · dsimp only; rw [if_neg (by rw [h]; exact Bool.false_ne_true)]
    | unplaced =>
      refine ⟨nofun, nofun, fun _ => ⟨fun h => ?_, fun h => ?_⟩⟩
      · dsimp only; rw [if_pos h, h]
      · dsimp only; rw [if_neg (by rw [h]; exact Bool.false_ne_true)]
    | outOfOrder follow =>
      exact ⟨fun _ h => by rw [Place.outOfOrder.inj h], nofun, fun h => h.elim nofun nofun⟩
    | stray => exact ⟨nofun, fun _ => rfl, fun h => h.elim nofun nofun⟩

theorem setItem_item (s : State) (i j : Nat) (x : Item) : (s.setItem i x).item j = if j = i then some x else s.item j := by
  unfold State.item State.setItem
  split
  next h => rw [h]; exact tget_tput_same _ _ _
  next h => exact tget_tput_other _ _ _ _ h

/-! ### The missing sweep (R118, R119) -/

theorem Settles.exec_sweepItem (h : Settles s w r c ctx) {rs : List Ruling} {todo : List Nat} {i : Nat}
    (hstage : w.stage = .sweep rs (i :: todo)) :
    exec .settleSweepItem s = .next (sweepItem s w r ctx rs todo i) := by
  change execSettleSweepItem s = _
  simp only [execSettleSweepItem, h.inSettle_eq, hstage]

/-- The stage after an item has been swept (R102). -/
def sweepStage (rs : List Ruling) (todo : List Nat) : Stage := if todo = [] then .summary rs else .sweep rs todo

theorem sweepStage_eq (rs : List Ruling) (todo : List Nat) :
    (if todo.isEmpty then Stage.summary rs else .sweep rs todo) = sweepStage rs todo := by
  cases todo <;> rfl

/-- A home item located elsewhere (R118). -/
theorem sweepItem_elsewhere {rs : List Ruling} {todo : List Nat} {i : Nat} {it : Item} (hi : s.item i = some it)
    (hhome : it.home = w.segment) {p : Placement} (hp : it.placed = some p) (haway : p.segment ≠ w.segment) :
    sweepItem s w r ctx rs todo i = s.setSettle { w with
      stage := sweepStage rs todo
      tallies := { w.tallies with locatedElsewhere := w.tallies.locatedElsewhere + 1 } } := by
  unfold sweepItem
  dsimp only
  rw [hi, sweepStage_eq]
  dsimp only
  rw [if_pos hhome, hp, if_neg]
  exact haway

/-- Any other home item (R118). -/
theorem sweepItem_home {rs : List Ruling} {todo : List Nat} {i : Nat} {it : Item} (hi : s.item i = some it)
    (hhome : it.home = w.segment) (hhere : ∀ p, it.placed = some p → p.segment = w.segment) :
    sweepItem s w r ctx rs todo i = goOn
      (s.setItem i (sweptItem it (notSeen ctx.truncated it) (some { count := newCount r, time := s.clock.value })))
      { w with stage := sweepStage rs todo, tallies := tallySwept w.tallies (notSeen ctx.truncated it) }
      (sweptFinding w.segment (newCount r) ctx.truncated i it (notSeen ctx.truncated it)) := by
  unfold sweepItem
  dsimp only
  rw [hi, sweepStage_eq]
  dsimp only
  rw [if_pos hhome, if_pos]
  · rfl
  · cases hp : it.placed with
    | none => rfl
    | some p => exact hhere p hp

/-- A stray not found again (R119). -/
theorem sweepItem_stray {rs : List Ruling} {todo : List Nat} {i : Nat} {it : Item} (hi : s.item i = some it)
    (hhome : it.home ≠ w.segment) :
    sweepItem s w r ctx rs todo i = goOn
      (s.setItem i (sweptItem it (lostStrayResult s ctx.truncated it)
        (if lostStrayResult s ctx.truncated it = .uncounted then none
          else some { count := newCount r, time := s.clock.value })))
      { w with stage := sweepStage rs todo }
      (some (lostStrayFinding w.segment (newCount r) ctx.truncated i it (lostStrayResult s ctx.truncated it))) := by
  unfold sweepItem
  dsimp only
  rw [hi, sweepStage_eq]
  dsimp only
  rw [if_neg hhome]
  rfl

theorem countNumberOf_eq (s : State) (g : Nat) : countNumberOf s g = ((s.segment g).map Segment.countNumber).getD 0 := by
  unfold countNumberOf
  cases s.segment g <;> rfl

/-- What a sweep that writes record i leaves beside it. -/
theorem goOn_setItem (s : State) (i : Nat) (x : Item) (w : Settle) (f : Option Finding) :
    let t := goOn (s.setItem i x) w f
    t.item i = some x ∧ (∀ j, j ≠ i → t.item j = s.item j) ∧ GoesOn s t w f ∧
      t.store = { s.store with items := t.store.items } ∧
      t = { s with store := t.store, settle := t.settle, findq := t.findq, notices := t.notices } := by
  intro t
  have hframe : t = { s.setItem i x with settle := t.settle, findq := t.findq, notices := t.notices } := goOn_frame _ w f
  have hgoes : GoesOn (s.setItem i x) t w f := goOn_goesOn _ w f
  generalize t = t at hframe hgoes
  have hstore : t.store = (s.setItem i x).store := by rw [hframe]
  have hitem (j : Nat) : t.item j = if j = i then some x else s.item j := by
    rw [← setItem_item]; unfold State.item; rw [hstore]
  refine ⟨(hitem i).trans (if_pos rfl), fun j hj => (hitem j).trans (if_neg hj), hgoes.congr rfl rfl rfl, ?_, ?_⟩
  · rw [hstore]; rfl
  · rw [hframe]; rfl

end

/-- Settles O50: `holdItems` on every record, and the engine in a fresh settle. -/
theorem freezeHoldsTheItemsOfTheSettle : Obligations.FreezeHoldsTheItemsOfTheSettle := by
  intro s g rest r c ctx htaking hqueue hr hp hc
  have hfreeze := freeze_taking htaking hqueue (settlingContext_eq hr hp hc)
  have hexec : exec .settleFreeze s = .next (freeze s) := rfl
  have hitem := holdItems_item s g ctx.observations
  refine ⟨_, hexec.trans (congrArg _ hfreeze), rfl, fun i hi => ?_, fun i it hi => ?_, rfl, rfl⟩
  · exact (hitem i).trans (by rw [hi]; rfl)
  · refine ⟨it.hold || toHold g ctx.observations i it, (hitem i).trans ?_, ?_⟩
    · rw [hi]; rfl
    · rw [Bool.or_eq_true, toHold_iff]

/-- Settles O53, by the verdict of the observation. -/
theorem resultsAreWrittenOneByOne : Obligations.ResultsAreWrittenOneByOne := by
  intro s w r c ctx rs todo x ht h hstage
  have hexec := h.exec_resultWrite hstage
  refine ⟨fun hx => ?_, fun hx => ?_, fun i place moved it hx hplace hi => ?_⟩
  · rw [writeResult_unknown hx] at hexec
    have hframe := goOn_frame s
      { w with
        stage := afterResult s w.segment rs todo
        tallies := { w.tallies with unknown := w.tallies.unknown + 1 } }
      (some (unknownFinding w.segment (newCount r) ctx.truncated x))
    exact ⟨_, _, hexec, afterResult_stageAfter (by rw [hframe]) ht.items _ _ _, goOn_goesOn _ _ _, hframe⟩
  · rw [writeResult_crossRead hx] at hexec
    exact ⟨_, _, hexec, afterResult_stageAfter rfl ht.items _ _ _, goOn_goesOn _ _ _, rfl⟩
  · obtain ⟨v, hv, hwrite⟩ := writeResult_placed (w := w) (r := r) (ctx := ctx) (rs := rs) (todo := todo) hx hi
    rw [hwrite] at hexec
    have hwf : Table.wf v.store.items := by rw [hv]; exact tput_wf _ _ _ ht.items
    have hframe := goOn_frame v
      { w with stage := afterResult v w.segment rs todo, tallies := tallyPlace w.tallies place }
      (placedFinding w.segment (newCount r) ctx.truncated i it x place moved)
    obtain ⟨hitem, hothers, hgoes, hstore, hrest⟩ := goOn_setItem s i
      (placedItem w.segment (newCount r) s.clock.value it x place)
      { w with stage := afterResult v w.segment rs todo, tallies := tallyPlace w.tallies place }
      (placedFinding w.segment (newCount r) ctx.truncated i it x place moved)
    rw [← hv] at hitem hothers hgoes hstore hrest
    refine ⟨_, _, _, _, hexec, afterResult_stageAfter (by rw [hframe]) hwf _ _ _, ?_, hothers,
      tallyPlace_tallied _ _, placedFinding_resultFinding _ _ _ _ _ _ _ hplace, hgoes, hstore, hrest⟩
    rw [hitem, placedItem, placeResult_eq]

/-- Settles O54, by where the item is at home and where it is located. -/
theorem sweepJudgesItemsNotSeen : Obligations.SweepJudgesItemsNotSeen := by
  intro s w r c ctx rs todo i it h hstage hi
  have hexec := h.exec_sweepItem hstage
  refine ⟨fun hhome ⟨p, hp, haway⟩ => ?_, fun hhome hhere => ?_, fun hhome => ?_⟩
  · rw [hexec, sweepItem_elsewhere hi hhome hp haway]
    rfl
  · rw [sweepItem_home hi hhome hhere] at hexec
    obtain ⟨hitem, hothers, hgoes, hstore, hrest⟩ := goOn_setItem s i
      (sweptItem it (notSeen ctx.truncated it) (some { count := newCount r, time := s.clock.value }))
      { w with stage := sweepStage rs todo, tallies := tallySwept w.tallies (notSeen ctx.truncated it) }
      (sweptFinding w.segment (newCount r) ctx.truncated i it (notSeen ctx.truncated it))
    refine ⟨_, hexec, hitem, hothers, ?_, hstore, hrest⟩
    clear hexec hitem hothers hstore hrest
    have hseen : notSeen ctx.truncated it = .missing ∨ notSeen ctx.truncated it = .unverified ∨
        notSeen ctx.truncated it = .absentExpected := by
      unfold notSeen
      split
      · split
        · exact .inr (.inl rfl)
        · exact .inl rfl
      · exact .inr (.inr rfl)
    rcases hseen with hseen | hseen | hseen <;> rw [hseen] at hgoes ⊢ <;> exact hgoes
  · rw [sweepItem_stray hi hhome] at hexec
    obtain ⟨hitem, hothers, hgoes, hstore, hrest⟩ := goOn_setItem s i
      (sweptItem it (lostStrayResult s ctx.truncated it)
        (if lostStrayResult s ctx.truncated it = .uncounted then none
          else some { count := newCount r, time := s.clock.value }))
      { w with stage := sweepStage rs todo }
      (some (lostStrayFinding w.segment (newCount r) ctx.truncated i it (lostStrayResult s ctx.truncated it)))
    refine ⟨_, lostStrayResult s ctx.truncated it, hexec, fun hcounted => ?_, fun hnot => ?_, hitem, hothers, hgoes,
      hstore, hrest⟩
    · exact if_neg (by rw [countNumberOf_eq]; exact hcounted)
    · exact if_pos (by rw [countNumberOf_eq]; exact not_not.mp hnot)

end Sys2Proof.Machine
end

section
/-! The order chain stage, the summary, the resumption and the release of a settle (R109 to R122). -/

namespace Sys2Proof.Machine

section
variable {s t u : State} {w : Settle} {r : Segment} {c : Fin 16} {ctx : Context} {l : Fin 8} {cause : CloseCause}

/-! ### The order chain stage (R109 to R111) -/

theorem Settles.exec_orderChain (h : Settles s w r c ctx) {rs : List Ruling} (hstage : w.stage = .orderChain rs) :
    exec .settleOrderChain s = .next (s.setSettle { w with
      stage := afterResult s w.segment (rs.map (applyChain s (orderChain (candidates s rs))))
        (rs.map (applyChain s (orderChain (candidates s rs)))) }) := by
  change execSettleOrderChain s = _
  simp only [execSettleOrderChain, h.inSettle_eq, hstage]

/-- A ruling's candidate: it is ruled one, with an estimate, and its item is written (R109). -/
theorem candidateOf_eq_some (s : State) (x : Ruling) (k : Candidate) : candidateOf s x = some k ↔
    ∃ m it, x.verdict = .placed k.item .candidate m ∧ x.estimate = some k.estimate ∧ s.item k.item = some it ∧
      it.rank = k.rank := by
  obtain ⟨e, q, i⟩ := k
  constructor
  · intro h
    unfold candidateOf at h
    split at h
    next j m e' hv he =>
      obtain ⟨it, hit, hk⟩ := Option.map_eq_some_iff.mp h
      obtain ⟨rfl, rfl, rfl⟩ := Candidate.mk.inj hk
      exact ⟨m, it, hv, he, hit, rfl⟩
    next => exact nomatch h
  · rintro ⟨m, it, hv, he, hit, rfl⟩
    unfold candidateOf
    rw [hv, he]
    dsimp only
    dsimp only at hit
    rw [hit]
    rfl

theorem shelfBefore_iff (a b : Candidate) : shelfBefore a b = true ↔
    a.estimate < b.estimate ∨ (a.estimate = b.estimate ∧ (a.rank < b.rank ∨ (a.rank = b.rank ∧ a.item < b.item))) := by
  simp only [shelfBefore, Bool.or_eq_true, Bool.and_eq_true, decide_eq_true_eq]

/-- What does not stand after is in shelf order (R109). -/
theorem shelfOrder_of_not (a b : Candidate) (h : ¬ shelfBefore b a = true) : ShelfOrder a b := by
  rw [shelfBefore_iff] at h
  unfold ShelfOrder
  simp only [BitVec.lt_def, ← BitVec.toNat_inj] at h ⊢
  omega

theorem applyChain_rules (s : State) (chain : List Candidate) (x : Ruling) : ChainRules s chain x (applyChain s chain x) := by
  by_cases hv : ∃ i m, x.verdict = .placed i .candidate m
  · obtain ⟨i, m, hv⟩ := hv
    have happly : applyChain s chain x = { x with verdict := .placed i (chainPlace s chain i) m } := by
      unfold applyChain; rw [hv]
    rw [happly]
    refine ⟨rfl, rfl, fun j n hj => ?_, fun hnot => absurd hv (hnot i m)⟩
    obtain ⟨rfl, -, rfl⟩ := Verdict.placed.inj (hv.symm.trans hj)
    refine ⟨fun ⟨k, hk, hki⟩ => ?_, fun hnone => ?_⟩
    · dsimp only
      rw [chainPlace, if_pos (List.any_eq_true.mpr ⟨k, hk, decide_eq_true hki⟩)]
    · have hany : ¬ (chain.any fun k => decide (k.item = i)) = true := by
        rw [List.any_eq_true]
        exact fun ⟨k, hk, hki⟩ => hnone k hk (of_decide_eq_true hki)
      dsimp only
      rw [chainPlace, if_neg hany]
      cases s.item i <;> rfl
  · have happly : applyChain s chain x = x := by
      unfold applyChain
      split
      next i m hx => exact absurd ⟨i, m, hx⟩ hv
      next => rfl
    rw [happly]
    exact ⟨rfl, rfl, fun i m hx => absurd ⟨i, m, hx⟩ hv, fun _ => rfl⟩

/-! ### The cue (R121) -/

theorem cueLists_eq (x : Ruling) : cueLists x = cued x := by
  unfold cueLists cued
  cases x.verdict with
  | placed i place moved =>
    cases moved with
    | some m => rfl
    | none => cases place <;> rfl
  | _ => rfl

theorem cued_placed {x : Ruling} (h : cued x = true) : ∃ i p m, x.verdict = .placed i p m := by
  unfold cued at h
  split at h
  next i p m hv => exact ⟨i, p, m, hv⟩
  next => exact nomatch h

/-- A ruling with no estimate stands behind every one with an estimate, and none before it compares equal. -/
theorem cueBefore_none {a b : Ruling} (hb : b.estimate = none) : cueBefore a b = a.estimate.isSome := by
  unfold cueBefore
  rw [hb]
  cases a.estimate <;> rfl

theorem cueBefore_of_none {a b : Ruling} (ha : a.estimate = none) : cueBefore a b = false := by
  unfold cueBefore
  rw [ha]

theorem insertBy_append_of_not {α : Type} (before : α → α → Bool) (x : α) (as bs : List α)
    (h : ∀ b ∈ bs, before b x = false) : insertBy before x (as ++ bs) = insertBy before x as ++ bs := by
  induction as with
  | nil =>
    cases bs with
    | nil => rfl
    | cons b bs => exact if_neg (by rw [h b List.mem_cons_self]; exact Bool.false_ne_true)
  | cons a as ih =>
    rw [List.cons_append, insertBy, insertBy, ih]
    split <;> rfl

theorem insertBy_append_of_before {α : Type} (before : α → α → Bool) (x : α) (as bs : List α)
    (has : ∀ a ∈ as, before a x = true) (hbs : ∀ b ∈ bs, before b x = false) :
    insertBy before x (as ++ bs) = as ++ x :: bs := by
  induction as with
  | nil =>
    cases bs with
    | nil => rfl
    | cons b bs => exact if_neg (by rw [hbs b List.mem_cons_self]; exact Bool.false_ne_true)
  | cons a as ih =>
    obtain ⟨ha, has⟩ := List.forall_mem_cons.mp has
    rw [List.cons_append, insertBy, if_pos ha, ih has]
    rfl

/-- In estimate order the known estimates stand first, and the others follow in list order (R121). -/
theorem sortBy_cueBefore (xs : List Ruling) : sortBy cueBefore xs =
    sortBy cueBefore (xs.filter fun x => x.estimate.isSome) ++ xs.filter fun x => x.estimate.isNone := by
  induction xs with
  | nil => rfl
  | cons x xs ih =>
    have hnone : ∀ b ∈ xs.filter (fun x => x.estimate.isNone), b.estimate = none := fun b hb =>
      Option.isNone_iff_eq_none.mp (List.mem_filter.mp hb).2
    rw [sortBy, ih]
    cases he : x.estimate with
    | none =>
      rw [List.filter_cons_of_neg (by rw [he]; exact Bool.false_ne_true), List.filter_cons_of_pos (by rw [he]; rfl)]
      refine insertBy_append_of_before _ _ _ _ (fun a ha => ?_) fun b hb => cueBefore_of_none (hnone b hb)
      rw [cueBefore_none he]
      exact (List.mem_filter.mp ((sortBy_perm _ _).mem_iff.mp ha)).2
    | some e =>
      rw [List.filter_cons_of_pos (by rw [he]; rfl), List.filter_cons_of_neg (by rw [he]; exact Bool.false_ne_true), sortBy]
      exact insertBy_append_of_not _ _ _ _ fun b hb => cueBefore_of_none (hnone b hb)

/-- A ruling that the cue may list, with a known estimate and its item index (R121). -/
structure Keyed (x : Ruling) (e i : Nat) : Prop where
  estimate : x.estimate = some e
  placed : ∃ p m, x.verdict = .placed i p m

/-- A ruling with a known estimate that the cue may list (R121). -/
def Cueable (x : Ruling) : Prop := cued x = true ∧ x.estimate.isSome = true

theorem Cueable.keyed {x : Ruling} (h : Cueable x) : ∃ e i, Keyed x e i := by
  obtain ⟨e, he⟩ := Option.isSome_iff_exists.mp h.2
  obtain ⟨i, p, m, hv⟩ := cued_placed h.1
  exact ⟨e, i, he, p, m, hv⟩

theorem Keyed.before {a b : Ruling} {x y i j : Nat} (ha : Keyed a x i) (hb : Keyed b y j) :
    cueBefore a b = true ↔ x < y ∨ (x = y ∧ i < j) := by
  obtain ⟨hx, p, m, hi⟩ := ha
  obtain ⟨hy, q, k, hj⟩ := hb
  unfold cueBefore
  rw [hx, hy]
  dsimp only
  rw [hi, hj]
  simp only [Bool.or_eq_true, Bool.and_eq_true, decide_eq_true_eq]

theorem Keyed.order {a b : Ruling} {x y i j : Nat} (ha : Keyed a x i) (hb : Keyed b y j) :
    EstimateOrder a b ↔ x < y ∨ (x = y ∧ i ≤ j) := by
  obtain ⟨hx, p, m, hi⟩ := ha
  obtain ⟨hy, q, k, hj⟩ := hb
  constructor
  · rintro ⟨x', y', hx', hy', h⟩
    obtain rfl := Option.some.inj (hx.symm.trans hx')
    obtain rfl := Option.some.inj (hy.symm.trans hy')
    exact h.imp id fun ⟨hxy, hij⟩ => ⟨hxy, hij i p m j q k hi hj⟩
  · refine fun h => ⟨x, y, hx, hy, h.imp id fun ⟨hxy, hij⟩ => ⟨hxy, fun i' p' m' j' q' k' hi' hj' => ?_⟩⟩
    obtain ⟨rfl, -⟩ := Verdict.placed.inj (hi.symm.trans hi')
    obtain ⟨rfl, -⟩ := Verdict.placed.inj (hj.symm.trans hj')
    exact hij

/-- Rulings that the cue may list, with known estimates, are sorted into estimate order (R121). -/
theorem sortBy_estimateOrder (xs : List Ruling) (h : ∀ x ∈ xs, Cueable x) :
    (sortBy cueBefore xs).Pairwise EstimateOrder := by
  refine sortBy_pairwise (P := Cueable) (fun a b ha hb hab => ?_) (fun a b ha hb hab => ?_)
    (fun a b c ha hb hc hab hbc => ?_) xs h
  all_goals obtain ⟨x, i, ha⟩ := ha.keyed; obtain ⟨y, j, hb⟩ := hb.keyed
  · rw [ha.before hb] at hab
    rw [ha.order hb]
    omega
  · rw [Bool.eq_false_iff, ne_eq, ha.before hb] at hab
    rw [hb.order ha]
    omega
  · obtain ⟨z, k, hc⟩ := hc.keyed
    rw [ha.order hb] at hab
    rw [hb.order hc] at hbc
    rw [ha.order hc]
    omega

/-- The tags of the cue (R121). -/
theorem cueTags_lists (rs : List Ruling) : CueLists rs (cueTags rs) := by
  have hlists : cueLists = cued := funext cueLists_eq
  have hknown : (rs.filter cued).filter (fun x => x.estimate.isSome) = rs.filter fun x => cued x && x.estimate.isSome := by
    rw [List.filter_filter]
    exact List.filter_congr fun x _ => Bool.and_comm _ _
  have hnone : (rs.filter cued).filter (fun x => x.estimate.isNone) = rs.filter fun x => cued x && x.estimate.isNone := by
    rw [List.filter_filter]
    exact List.filter_congr fun x _ => Bool.and_comm _ _
  refine ⟨sortBy cueBefore (rs.filter fun x => cued x && x.estimate.isSome), sortBy_perm _ _,
    sortBy_estimateOrder _ fun x hx => ?_, ?_⟩
  · have hx := (List.mem_filter.mp hx).2
    rwa [Bool.and_eq_true] at hx
  · rw [cueTags, hlists, sortBy_cueBefore, hknown, hnone]

/-- The cue is offered, if it is made, and the release is next (R121). -/
theorem afterSummary_cue {rs : List Ruling} (hr : s.segment w.segment = some r) (hp : r.phase = .settling c)
    (hc : s.context c = some ctx) (hclosed : ctx.phase = .closed l cause) :
    CueOffered s (afterSummary s w rs) l w.segment (newCount r) w.tallies rs := by
  have hcontext : settlingContext (s.setSettle { w with stage := .release }) w.segment = some (c, ctx) :=
    settlingContext_eq (s := s.setSettle { w with stage := .release }) hr hp hc
  have hby : closedBy ctx = some (l, cause) := by unfold closedBy; rw [hclosed]
  have hcount : countNumberOf (s.setSettle { w with stage := .release }) w.segment = r.countNumber := by
    rw [countNumberOf_eq]
    exact congrArg (fun x => (x.map Segment.countNumber).getD 0) hr
  have hmade : (cueEnable s.opts && attached (s.lane l)) = true ↔
      s.opts.general.getLsbD 2 = true ∧ (s.lane l).mode ≠ .detached := by
    rw [Bool.and_eq_true, attached, decide_eq_true_iff]; rfl
  have hfield : (afterSummary s w rs).field = if (cueEnable s.opts && attached (s.lane l)) = true then
      (offerFieldOut s (.cue { lane := l, segment := w.segment, count := newCount r, tallies := w.tallies,
                               tags := cueTags rs })).field else s.field := by
    unfold afterSummary
    dsimp only
    rw [hcontext]
    dsimp only
    rw [hby]
    dsimp only
    rw [hcount, apply_ite State.field]
    refine ite_congr rfl (fun _ => ?_) fun _ => rfl
    rw [offerFieldOut_field, offerFieldOut_field]
    rfl
  unfold CueOffered
  by_cases h : (cueEnable s.opts && attached (s.lane l)) = true
  · rw [if_pos h, offerFieldOut_field] at hfield
    rw [if_pos (hmade.mp h)]
    refine ⟨fun hlt => ⟨_, cueTags_lists rs, ?_⟩, fun hge => ?_⟩
    · rw [hfield, if_pos hlt]
    · rw [hfield, if_neg (Nat.not_lt.mpr hge)]
      rfl
  · rw [if_neg h] at hfield
    rw [if_neg (mt hmade.mpr h)]
    exact hfield

/-! ### The summary (R120) -/

theorem Settles.exec_summary (h : Settles s w r c ctx) {rs : List Ruling} (hstage : w.stage = .summary rs) :
    exec .settleSummary s = .next (summarize s w r ctx rs) := by
  change execSettleSummary s = _
  simp only [execSettleSummary, h.inSettle_eq, hstage]

/-- The finding of the summary, by the lane and the cause of the close (R120). -/
theorem settledFinding_eq (g n : Nat) (t : Tallies) (h : ctx.phase = .closed l cause) : settledFinding g n ctx t =
    { kind := .segmentSettled, time := 0, truncated := ctx.truncated, segment := some g, count := some n
      lane := some l, cause := some cause, tallies := some t } := by
  have hby : closedBy ctx = some (l, cause) := by unfold closedBy; rw [h]
  unfold settledFinding
  rw [hby]
  rfl

/-! ### The release (R83, R122) -/

theorem Settles.exec_release (h : Settles s w r c ctx) (hstage : w.stage = .release) :
    exec .settleRelease s = .next (release s w r c ctx) := by
  change execSettleRelease s = _
  simp only [execSettleRelease, h.inSettle_eq, hstage]

/-- A QUERY_ITEM that waits on a hold takes the record (R18). -/
theorem captureQuery_waits {before after : List Slot} {sl : Slot} {req : Request} {i : Nat} {it : Item}
    (hw : InWork s before sl after req (.holdWait i)) (hi : s.item i = some it) :
    captureQuery s = s.setSlots (before ++ { sl with state := .inService (.holdCleared i it) } :: after) := by
  have hun : unanswered sl = true := by simp [unanswered, hw.work]
  have hcapture : captureQuery s = setHead s fun _ => .inService (.holdCleared i it) := by
    unfold captureQuery
    rw [hw.inService]
    dsimp only
    rw [hi]
  rw [hcapture]
  unfold setHead
  rw [hw.slots, changeFirst_unanswered _ before after sl (fun x hx => answered_not_unanswered x (hw.older x hx)) hun]

theorem unanswered_eq_false {x : Slot} (h : unanswered x = false) : x.answered := by
  unfold unanswered at h
  cases hx : x.state with
  | pending => rw [hx] at h; exact nomatch h
  | inService w => rw [hx] at h; exact nomatch h
  | replyReady r => exact .inl ⟨r, hx⟩
  | sending r => exact .inr ⟨r, hx⟩

/-- The request in service is in work at its slot (R173). -/
theorem inWork_of_inService {req : Request} {k : Work} (h : inService s = some (req, k)) :
    ∃ before sl after, InWork s before sl after req k := by
  unfold inService at h
  split at h
  next sl hsl =>
    split at h
    next k' hk =>
      obtain ⟨rfl, rfl⟩ := Prod.mk.inj (Option.some.inj h)
      obtain ⟨-, before, after, hslots, hbefore⟩ := List.find?_eq_some_iff_append.mp hsl
      exact ⟨before, sl, after, hslots, fun x hx => unanswered_eq_false (by simpa using hbefore x hx), hk, rfl⟩
    next => exact nomatch h
  next => exact nomatch h

/-- No QUERY_ITEM waits, and nothing is taken. -/
theorem captureQuery_none (h : ∀ before sl after req i, ¬ InWork s before sl after req (.holdWait i)) :
    captureQuery s = s := by
  unfold captureQuery
  split
  next req i hs =>
    obtain ⟨before, sl, after, hw⟩ := inWork_of_inService hs
    exact absurd hw (h before sl after req i)
  next => rfl

theorem released_item (s : State) (w : Settle) (r : Segment) (c : Fin 16) (ctx : Context) (i : Nat) :
    (released s w r c ctx).item i = (s.item i).map fun it => { it with hold := false } :=
  tget_tmap (fun _ (it : Item) => { it with hold := false }) s.store.items i

/-- What a release leaves beside the Request Queue. -/
theorem released_frame (s : State) (w : Settle) (r : Segment) (c : Fin 16) (ctx : Context) :
    (released s w r c ctx).pool.freeSlots = s.pool.freeSlots + ctx.observations.length ∧
    (released s w r c ctx).settle = { s.settle with engine := .scanning } ∧
    (released s w r c ctx).lanes.next = s.lanes.next ∧
    (released s w r c ctx).store = { s.store with
      segments := (released s w r c ctx).store.segments, items := (released s w r c ctx).store.items } ∧
    released s w r c ctx = { s with
      store := (released s w r c ctx).store, pool := (released s w r c ctx).pool, lanes := (released s w r c ctx).lanes
      settle := (released s w r c ctx).settle, notices := (released s w r c ctx).notices } :=
  ⟨rfl, rfl, rfl, rfl, rfl⟩

end

/-- Settles O52: `candidates` are sorted by shelf order, and `applyChain` rules each. -/
theorem orderChainRulesTheCandidates : Obligations.OrderChainRulesTheCandidates := by
  intro s w r c ctx rs h hstage hne
  have hexec := h.exec_orderChain hstage
  have hafter (rs' : List Ruling) (hne : rs' ≠ []) : afterResult s w.segment rs' rs' = .results rs' rs' := by
    cases rs' with
    | nil => exact absurd rfl hne
    | cons x xs => rfl
  rw [hafter _ (mt List.map_eq_nil_iff.mp hne)] at hexec
  refine ⟨_, candidates s rs, hexec, sortBy_perm _ _, fun k => ?_, ?_, List.length_map _, fun n x x' hx hx' => ?_⟩
  · rw [candidates, (sortBy_perm _ _).mem_iff, List.mem_filterMap]
    exact exists_congr fun x => and_congr_right fun _ => candidateOf_eq_some s x k
  · refine sortBy_pairwise (P := fun _ => True) (fun a b _ _ hab => ?_) (fun a b _ _ hab => ?_)
      (fun a b c _ _ _ hab hbc => ?_) _ fun _ _ => trivial
    · rw [shelfBefore_iff] at hab
      exact hab.imp id fun ⟨he, hr⟩ => ⟨he, hr.imp id fun ⟨hq, hi⟩ => ⟨hq, hi.le⟩⟩
    · exact shelfOrder_of_not b a (by rw [hab]; exact Bool.false_ne_true)
    · unfold ShelfOrder at *
      simp only [BitVec.lt_def, ← BitVec.toNat_inj] at *
      omega
  · rw [List.getElem?_map, hx] at hx'
    obtain rfl := Option.some.inj hx'
    exact applyChain_rules s _ x

/-- Settles O55: the summary pushes or stalls as `goOn` does, and the resumption is by cases of what was kept. -/
theorem summaryAndResumptionPushTheFinding : Obligations.SummaryAndResumptionPushTheFinding := by
  intro s w r c ctx l cause hengine hr hp hc hclosed
  refine ⟨fun rs hkept hstage => ?_, fun f hf habove => ?_, fun f hf hlen => ?_⟩
  · have hexec := (Settles.mk hengine hkept hr hp hc).exec_summary hstage
    intro tallies f
    have hf : settledFinding w.segment (nextCount r.countNumber) ctx tallies = f := settledFinding_eq _ _ _ hclosed
    have hsum : summarize s w r ctx rs = if s.findq.records.length < 240 then
        afterSummary (appendSettle s f) { w with tallies := tallies } rs
        else settlePush s { w with tallies := tallies } f := by rw [← hf]; rfl
    refine ⟨_, hexec, fun hlt => ?_, fun hge => ?_, ?_⟩ <;> rw [hsum]
    · rw [if_pos hlt]
      have hframe := afterSummary_frame (appendSettle s f) { w with tallies := tallies } rs
      have hcue := afterSummary_cue (s := appendSettle s f) (w := { w with tallies := tallies }) (rs := rs) hr hp hc hclosed
      generalize afterSummary (appendSettle s f) { w with tallies := tallies } rs = t at hframe hcue
      refine ⟨⟨by rw [hframe]; rfl, fun _ => ⟨by rw [hframe], by rw [hframe]; rfl⟩, fun hge => ?_⟩, hcue⟩
      exact absurd hge (Nat.not_le.mpr hlt)
    · rw [if_neg (Nat.not_lt.mpr hge)]
      exact ⟨goOn_goesOn s _ (some f), by rw [settlePush_frame]⟩
    · split
      · have hframe := afterSummary_frame (appendSettle s f) { w with tallies := tallies } rs
        generalize afterSummary (appendSettle s f) { w with tallies := tallies } rs = t at hframe
        rw [hframe]; rfl
      · have hframe := settlePush_frame s { w with tallies := tallies } f
        generalize settlePush s { w with tallies := tallies } f = t at hframe
        rw [hframe]
  · exact congrArg _ (resumeEngine_above s w f hengine hf habove)
  · have hexec : exec .settleResume s = .next (resumeEngine s) := rfl
    by_cases hsettled : f.kind = .segmentSettled ∧ ∃ rs, w.stage = .summary rs
    · obtain ⟨hk, rs, hs⟩ := hsettled
      rw [resumeEngine_settled s w f rs hengine hf hlen hk hs] at hexec
      let u := appendSettle (withEdges s fun s => s.setSettle { w with kept := none }) f
      have hframe := afterSummary_frame u { w with kept := none } rs
      have hcue := afterSummary_cue (s := u) (w := { w with kept := none }) (rs := rs) hr hp hc hclosed
      refine ⟨afterSummary u { w with kept := none } rs, hexec, ?_⟩
      generalize afterSummary u { w with kept := none } rs = t at hframe hcue
      refine ⟨by rw [hframe]; rfl, by rw [hframe]; rfl, fun rs' _ hs' => ?_, fun hother => ?_, by rw [hframe]; rfl⟩
      · obtain rfl := Stage.summary.inj (hs.symm.trans hs')
        exact ⟨by rw [hframe], hcue⟩
      · exact (hother.elim (absurd hk) fun h => absurd hs (h rs) : False).elim
    · have hother : f.kind ≠ .segmentSettled ∨ ∀ rs, w.stage ≠ .summary rs := by
        rw [not_and_or] at hsettled
        exact hsettled.imp id fun h rs hs => h ⟨rs, hs⟩
      rw [resumeEngine_other s w f hengine hf hlen hother] at hexec
      exact ⟨_, hexec, rfl, rfl, fun rs hk hs => absurd ⟨hk, rs, hs⟩ hsettled, fun _ => ⟨rfl, rfl⟩, rfl⟩

/-- Settles O56: `released` says what is freed and cleared, and `captureQuery` what a waiting QUERY_ITEM takes. -/
theorem releaseSettlesTheSegment : Obligations.ReleaseSettlesTheSegment := by
  intro s w r c ctx l cause h hstage hclosed
  have hexec := h.exec_release hstage
  have hby : closedBy ctx = some (l, cause) := by unfold closedBy; rw [hclosed]
  have hcapture := captureQuery_frame (released s w r c ctx)
  have hwaits {before after : List Slot} {sl : Slot} {req : Request} {i : Nat} {it : Item}
      (hw : InWork s before sl after req (.holdWait i)) (hi : s.item i = some it) :
      captureQuery (released s w r c ctx) = (released s w r c ctx).setSlots
        (before ++ { sl with state := .inService (.holdCleared i { it with hold := false }) } :: after) :=
    captureQuery_waits (s := released s w r c ctx) ⟨hw.slots, hw.older, hw.work, hw.request⟩
      (by rw [released_item, hi]; rfl)
  have hnone (hnot : ∀ before sl after req i, ¬ InWork s before sl after req (.holdWait i)) :
      captureQuery (released s w r c ctx) = released s w r c ctx :=
    captureQuery_none fun before sl after req i hw =>
      hnot before sl after req i ⟨hw.slots, hw.older, hw.work, hw.request⟩
  have hsegment := released_segment s w r c ctx
  have hcontext (d : Fin 16) := released_context s w r c d ctx
  have hitem := released_item s w r c ctx
  have hlane := released_lane s w r c ctx
  obtain ⟨hslots, hsettle, hnext, hstore, hframe⟩ := released_frame s w r c ctx
  have hrequests : (released s w r c ctx).requests = s.requests := rfl
  rw [release_eq] at hexec
  refine ⟨_, hexec, ?_⟩
  generalize captureQuery (released s w r c ctx) = t at hcapture hwaits hnone
  generalize released s w r c ctx = u at *
  refine ⟨?_, fun g hg => ?_, ?_, fun d hd => ?_, ?_, fun i => ?_, fun m => ?_, ?_, ?_,
    fun before sl after req i it hw hi => ?_, fun hnot => ?_, ?_, ?_⟩
  · rw [hcapture]
    refine (hsegment w.segment).trans ((if_pos rfl).trans ?_)
    rw [hby]
    rfl
  · rw [hcapture]; exact (hsegment g).trans (if_neg hg)
  · rw [hcapture]; exact (hcontext c).trans (if_pos rfl)
  · rw [hcapture]; exact (hcontext d).trans (if_neg hd)
  · rw [hcapture]; exact hslots
  · rw [hcapture]; exact hitem i
  · rw [hcapture]; exact hlane m
  · rw [hcapture]; exact hnext
  · rw [hcapture]; exact hsettle
  · rw [hwaits hw hi]
    unfold Begins State.setSlots
    rw [hrequests]
  · rw [hnone hnot, hrequests]
  · rw [hcapture]; exact hstore
  · rw [hcapture, hframe]

end Sys2Proof.Machine
end

section
/-! The order chain (R109 to R111): what the greatest L means, and why picking from the end backward gives a longest chain. -/

namespace Sys2Proof.Machine

/-- Ranks do not fall along the list. -/
abbrev Rises (cs : List Candidate) : Prop := cs.Pairwise fun a b => a.rank ≤ b.rank

section
variable {cs : List Candidate} {c : Candidate} {q : Rank}

/-! ### The L values, candidate by candidate -/

/-- The L values of candidates in shelf order, latest first (R109). -/
def lengthsOf (cs : List Candidate) : List (Candidate × Nat) := chainLengths [] cs

/-- The greatest L among the candidates of rank q at most (R109). -/
def bestOf (cs : List Candidate) (q : Rank) : Nat := bestBefore (lengthsOf cs) q

theorem chainLengths_append (done : List (Candidate × Nat)) (as bs : List Candidate) :
    chainLengths done (as ++ bs) = chainLengths (chainLengths done as) bs := by
  induction as generalizing done with
  | nil => rfl
  | cons a as ih => exact ih _

theorem lengthsOf_snoc (cs : List Candidate) (c : Candidate) :
    lengthsOf (cs ++ [c]) = (c, 1 + bestOf cs c.rank) :: lengthsOf cs := by
  rw [lengthsOf, chainLengths_append]
  rfl

theorem lengthsOf_length (cs : List Candidate) : (lengthsOf cs).length = cs.length := by
  induction cs using List.reverseRecOn with
  | nil => rfl
  | append_singleton cs c ih => rw [lengthsOf_snoc, List.length_cons, ih, List.length_append, List.length_singleton]

theorem foldl_max_eq (l : List Nat) (m : Nat) : l.foldl max m = max m (l.foldl max 0) := by
  induction l generalizing m with
  | nil => exact (Nat.max_zero m).symm
  | cons a l ih =>
    rw [List.foldl_cons, List.foldl_cons, ih, ih (max 0 a)]
    omega

theorem bestBefore_cons (x : Candidate × Nat) (done : List (Candidate × Nat)) (q : Rank) :
    bestBefore (x :: done) q = if x.1.rank ≤ q then max x.2 (bestBefore done q) else bestBefore done q := by
  unfold bestBefore
  split
  next h =>
    rw [List.filter_cons_of_pos (by simpa using h), List.map_cons, List.foldl_cons, foldl_max_eq, Nat.zero_max]
  next h => rw [List.filter_cons_of_neg (by simpa using h)]

theorem bestOf_snoc (cs : List Candidate) (c : Candidate) (q : Rank) : bestOf (cs ++ [c]) q =
    if c.rank ≤ q then max (1 + bestOf cs c.rank) (bestOf cs q) else bestOf cs q := by
  rw [bestOf, lengthsOf_snoc, bestBefore_cons]
  rfl

theorem rises_snoc {run : List Candidate} : Rises (run ++ [c]) ↔ Rises run ∧ ∀ x ∈ run, x.rank ≤ c.rank := by
  simp [Rises, List.pairwise_append]

theorem rank_le_trans {a b d : Rank} (h : a ≤ b) (k : b ≤ d) : a ≤ d := BitVec.le_trans h k

/-- The greatest L is the length of the longest rising part of rank q at most (R109). -/
theorem bestOf_spec (cs : List Candidate) (q : Rank) :
    (∀ run, List.Sublist run cs → Rises run → (∀ x ∈ run, x.rank ≤ q) → run.length ≤ bestOf cs q) ∧
    ∃ run, List.Sublist run cs ∧ Rises run ∧ (∀ x ∈ run, x.rank ≤ q) ∧ run.length = bestOf cs q := by
  induction cs using List.reverseRecOn generalizing q with
  | nil =>
    refine ⟨fun run hrun _ _ => ?_, [], List.Sublist.slnil, List.Pairwise.nil, fun _ h => absurd h List.not_mem_nil, rfl⟩
    rw [List.sublist_nil.mp hrun]
    exact Nat.zero_le _
  | append_singleton cs c ih =>
    constructor
    · intro run hrun hrises hle
      obtain ⟨before, last, rfl, hbefore, hlast⟩ := List.sublist_append_iff.mp hrun
      have hshort := (ih q).1 before hbefore (List.pairwise_append.mp hrises).1 fun x hx =>
        hle x (List.mem_append_left _ hx)
      rw [bestOf_snoc]
      rcases List.sublist_singleton.mp hlast with rfl | rfl
      · rw [List.append_nil]
        split <;> omega
      · obtain ⟨hrising, hall⟩ := rises_snoc.mp hrises
        have hlong := (ih c.rank).1 before hbefore hrising hall
        rw [if_pos (hle c (by simp)), List.length_append, List.length_singleton]
        omega
    · have hskip (h : bestOf (cs ++ [c]) q = bestOf cs q) : ∃ run, List.Sublist run (cs ++ [c]) ∧ Rises run ∧
          (∀ x ∈ run, x.rank ≤ q) ∧ run.length = bestOf (cs ++ [c]) q := by
        obtain ⟨run, hrun, hrises, hle, hlen⟩ := (ih q).2
        exact ⟨run, hrun.trans (List.sublist_append_left cs [c]), hrises, hle, hlen.trans h.symm⟩
      by_cases hc : c.rank ≤ q
      · rcases Nat.le_total (1 + bestOf cs c.rank) (bestOf cs q) with hle | hge
        · exact hskip (by rw [bestOf_snoc, if_pos hc, Nat.max_eq_right hle])
        · obtain ⟨run, hrun, hrises, hle, hlen⟩ := (ih c.rank).2
          refine ⟨run ++ [c], hrun.append (List.Sublist.refl [c]), rises_snoc.mpr ⟨hrises, hle⟩, fun x hx => ?_, ?_⟩
          · rcases List.mem_append.mp hx with hx | hx
            · exact rank_le_trans (hle x hx) hc
            · rw [List.mem_singleton.mp hx]; exact hc
          · rw [bestOf_snoc, if_pos hc, Nat.max_eq_left hge, List.length_append, List.length_singleton, hlen, Nat.add_comm]
      · exact hskip (by rw [bestOf_snoc, if_neg hc])

/-! ### L at a place (R109) -/

theorem longestAt_unique {j m n : Nat} (h : LongestAt cs j m) (k : LongestAt cs j n) : m = n :=
  Nat.le_antisymm (k.2 m h.1) (h.2 n k.1)

theorem endsAt_snoc {j n : Nat} (hj : j < cs.length) : EndsAt (cs ++ [c]) j n ↔ EndsAt cs j n := by
  unfold EndsAt
  rw [List.getElem?_append_left hj, List.take_append_of_le_length hj.le]

/-- A candidate's L speaks of those before it alone. -/
theorem longestAt_snoc {j n : Nat} (hj : j < cs.length) : LongestAt (cs ++ [c]) j n ↔ LongestAt cs j n := by
  unfold LongestAt
  simp only [endsAt_snoc hj]

theorem endsAt_last (n : Nat) : EndsAt (cs ++ [c]) cs.length n ↔
    ∃ run, List.Sublist run cs ∧ Rises (run ++ [c]) ∧ run.length + 1 = n := by
  unfold EndsAt
  rw [List.getElem?_concat_length, List.take_left]
  constructor
  · rintro ⟨run, d, hd, hrun, hrises, hlen⟩
    obtain rfl := Option.some.inj hd
    exact ⟨run, hrun, hrises, hlen⟩
  · rintro ⟨run, hrun, hrises, hlen⟩
    exact ⟨run, c, rfl, hrun, hrises, hlen⟩

/-- The L of the latest candidate (R109). -/
theorem longestAt_last (cs : List Candidate) (c : Candidate) :
    LongestAt (cs ++ [c]) cs.length (1 + bestOf cs c.rank) := by
  obtain ⟨hmost, run, hrun, hrises, hle, hlen⟩ := bestOf_spec cs c.rank
  refine ⟨(endsAt_last _).mpr ⟨run, hrun, rises_snoc.mpr ⟨hrises, hle⟩, by omega⟩, fun m hm => ?_⟩
  obtain ⟨run, hrun, hrises, rfl⟩ := (endsAt_last _).mp hm
  obtain ⟨hrises, hle⟩ := rises_snoc.mp hrises
  have := hmost run hrun hrises hle
  omega

theorem EndsAt.getElem? {j n : Nat} (h : EndsAt cs j n) : ∃ d, cs[j]? = some d := by
  obtain ⟨-, d, hd, -⟩ := h
  exact ⟨d, hd⟩

/-- What ends at a place is a rising part of the candidates. -/
theorem EndsAt.le_bestOf {j n : Nat} (h : EndsAt cs j n) (hq : ∀ x ∈ cs, x.rank ≤ q) : n ≤ bestOf cs q := by
  obtain ⟨run, d, hd, hrun, hrises, rfl⟩ := h
  obtain ⟨hj, hget⟩ := List.getElem?_eq_some_iff.mp hd
  have hsub : List.Sublist (run ++ [d]) cs := by
    have htake : cs.take (j + 1) = cs.take j ++ [d] := by rw [List.take_add_one, hd]; rfl
    exact (htake ▸ hrun.append (List.Sublist.refl [d]) : List.Sublist (run ++ [d]) (cs.take (j + 1))).trans
      (List.take_sublist _ _)
  have := (bestOf_spec cs q).1 _ hsub hrises fun x hx => hq x (hsub.subset hx)
  rwa [List.length_append, List.length_singleton] at this

/-! ### The chain picked (R110) -/

/-- The chain picked among candidates of rank q at most, latest first (R110). -/
def chainOf (cs : List Candidate) (q : Rank) : List Candidate := pickChain (lengthsOf cs) (bestOf cs q) q

/-- The latest candidate is picked. -/
abbrev Picks (cs : List Candidate) (c : Candidate) (q : Rank) : Prop :=
  1 + bestOf cs c.rank = bestOf (cs ++ [c]) q ∧ c.rank ≤ q

/-- A candidate that is passed by leaves the L wanted. -/
theorem bestOf_of_not_picks (h : ¬ Picks cs c q) : bestOf (cs ++ [c]) q = bestOf cs q := by
  unfold Picks at h
  rw [bestOf_snoc] at h ⊢
  split
  next hc =>
    rw [if_pos hc] at h
    have hne : 1 + bestOf cs c.rank ≠ max (1 + bestOf cs c.rank) (bestOf cs q) := fun he => h ⟨he, hc⟩
    omega
  next => rfl

theorem chainOf_picks (h : Picks cs c q) : chainOf (cs ++ [c]) q = c :: chainOf cs c.rank := by
  have hwant : bestOf (cs ++ [c]) q - 1 = bestOf cs c.rank := by rw [← h.1]; omega
  rw [chainOf, lengthsOf_snoc, pickChain, if_pos h, hwant]
  rfl

theorem chainOf_passes (h : ¬ Picks cs c q) : chainOf (cs ++ [c]) q = chainOf cs q := by
  rw [chainOf, lengthsOf_snoc, pickChain, if_neg h, bestOf_of_not_picks h]
  rfl

/-- The chain is a longest rising part of rank q at most. -/
theorem chainOf_spec (cs : List Candidate) (q : Rank) :
    (chainOf cs q).reverse.Sublist cs ∧ (chainOf cs q).Pairwise (fun a b => b.rank ≤ a.rank) ∧
    (∀ x ∈ chainOf cs q, x.rank ≤ q) ∧ (chainOf cs q).length = bestOf cs q := by
  induction cs using List.reverseRecOn generalizing q with
  | nil => exact ⟨List.Sublist.slnil, List.Pairwise.nil, fun _ h => absurd h List.not_mem_nil, rfl⟩
  | append_singleton cs c ih =>
    by_cases h : Picks cs c q
    · obtain ⟨hsub, hfalls, hle, hlen⟩ := ih c.rank
      rw [chainOf_picks h]
      refine ⟨?_, List.pairwise_cons.mpr ⟨hle, hfalls⟩, List.forall_mem_cons.mpr ⟨h.2, fun x hx => ?_⟩, ?_⟩
      · rw [List.reverse_cons]
        exact hsub.append (List.Sublist.refl [c])
      · exact rank_le_trans (hle x hx) h.2
      · rw [List.length_cons, hlen, ← h.1, Nat.add_comm]
    · obtain ⟨hsub, hfalls, hle, hlen⟩ := ih q
      rw [chainOf_passes h]
      exact ⟨hsub.trans (List.sublist_append_left cs [c]), hfalls, hle, hlen.trans (bestOf_of_not_picks h).symm⟩

/-! ### The places of the chain (R110) -/

/-- `pickChain` by places: the number of candidates before each one picked. -/
def pickPlaces : List (Candidate × Nat) → Nat → Rank → List Nat
  | [], _, _ => []
  | (c, n) :: rest, want, bound =>
    if n = want ∧ c.rank ≤ bound then rest.length :: pickPlaces rest (want - 1) c.rank else pickPlaces rest want bound

/-- The places of the chain among candidates of rank q at most, latest first. -/
def placesOf (cs : List Candidate) (q : Rank) : List Nat := pickPlaces (lengthsOf cs) (bestOf cs q) q

theorem placesOf_picks (h : Picks cs c q) : placesOf (cs ++ [c]) q = cs.length :: placesOf cs c.rank := by
  have hwant : bestOf (cs ++ [c]) q - 1 = bestOf cs c.rank := by rw [← h.1]; omega
  rw [placesOf, lengthsOf_snoc, pickPlaces, if_pos h, hwant, lengthsOf_length]
  rfl

theorem placesOf_passes (h : ¬ Picks cs c q) : placesOf (cs ++ [c]) q = placesOf cs q := by
  rw [placesOf, lengthsOf_snoc, pickPlaces, if_neg h, bestOf_of_not_picks h]
  rfl

theorem placesOf_lt (cs : List Candidate) (q : Rank) : ∀ j ∈ placesOf cs q, j < cs.length := by
  induction cs using List.reverseRecOn generalizing q with
  | nil => exact fun j h => absurd h List.not_mem_nil
  | append_singleton cs c ih =>
    intro j hj
    rw [List.length_append, List.length_singleton]
    by_cases h : Picks cs c q
    · rw [placesOf_picks h] at hj
      rcases List.mem_cons.mp hj with rfl | hj
      · exact Nat.lt_succ_self _
      · exact Nat.lt_succ_of_lt (ih c.rank j hj)
    · rw [placesOf_passes h] at hj
      exact Nat.lt_succ_of_lt (ih q j hj)

/-- The chain is what stands at its places. -/
theorem chainOf_eq_places (cs : List Candidate) (q : Rank) : chainOf cs q = (placesOf cs q).filterMap fun j => cs[j]? := by
  have hkeep (cs : List Candidate) (c : Candidate) (q : Rank) :
      ((placesOf cs q).filterMap fun j => (cs ++ [c])[j]?) = (placesOf cs q).filterMap fun j => cs[j]? :=
    List.filterMap_congr fun j hj => List.getElem?_append_left (placesOf_lt cs q j hj)
  induction cs using List.reverseRecOn generalizing q with
  | nil => rfl
  | append_singleton cs c ih =>
    by_cases h : Picks cs c q
    · rw [chainOf_picks h, placesOf_picks h, List.filterMap_cons, List.getElem?_concat_length, hkeep, ih]
    · rw [chainOf_passes h, placesOf_passes h, hkeep, ih]

theorem placesOf_eq_nil (cs : List Candidate) (q : Rank) : placesOf cs q = [] ↔ bestOf cs q = 0 := by
  induction cs using List.reverseRecOn generalizing q with
  | nil => exact ⟨fun _ => rfl, fun _ => rfl⟩
  | append_singleton cs c ih =>
    by_cases h : Picks cs c q
    · rw [placesOf_picks h, ← h.1]
      exact ⟨nofun, fun h => by omega⟩
    · rw [placesOf_passes h, bestOf_of_not_picks h, ih]

/-- The place picked first is the latest whose L is the greatest, among candidates of rank q at most (R110). -/
theorem placesOf_first (cs : List Candidate) (q : Rank) {p : Nat} {rest : List Nat} (h : placesOf cs q = p :: rest) :
    (∃ d, cs[p]? = some d ∧ d.rank ≤ q) ∧ LongestAt cs p (bestOf cs q) ∧
    ∀ k d, p < k → cs[k]? = some d → d.rank ≤ q → ¬ LongestAt cs k (bestOf cs q) := by
  induction cs using List.reverseRecOn generalizing q p rest with
  | nil => exact nomatch h
  | append_singleton cs c ih =>
    by_cases hpick : Picks cs c q
    · rw [placesOf_picks hpick] at h
      obtain ⟨rfl, -⟩ := List.cons.inj h
      refine ⟨⟨c, List.getElem?_concat_length, hpick.2⟩, hpick.1 ▸ longestAt_last cs c, fun k d hk hd => ?_⟩
      have hlt := (List.getElem?_eq_some_iff.mp hd).1
      rw [List.length_append, List.length_singleton] at hlt
      omega
    · rw [placesOf_passes hpick] at h
      obtain ⟨⟨d, hd, hle⟩, hlongest, hlater⟩ := ih q h
      have hp : p < cs.length := (List.getElem?_eq_some_iff.mp hd).1
      rw [bestOf_of_not_picks hpick]
      refine ⟨⟨d, by rw [List.getElem?_append_left hp]; exact hd, hle⟩, (longestAt_snoc hp).mpr hlongest,
        fun k e hk he hle hlong => ?_⟩
      have hlt := (List.getElem?_eq_some_iff.mp he).1
      rw [List.length_append, List.length_singleton] at hlt
      rcases Nat.lt_or_ge k cs.length with hk' | hk'
      · rw [List.getElem?_append_left hk'] at he
        exact hlater k e hk he hle ((longestAt_snoc hk').mp hlong)
      · obtain rfl : k = cs.length := by omega
        rw [List.getElem?_concat_length] at he
        obtain rfl := Option.some.inj he
        refine hpick ⟨?_, hle⟩
        rw [bestOf_of_not_picks hpick]
        exact longestAt_unique (longestAt_last cs c) hlong

/-- After one place comes the latest of the L below, of no greater rank (R110). -/
theorem placesOf_next (cs : List Candidate) (q : Rank) {newer older : List Nat} {a b : Nat}
    (h : placesOf cs q = newer ++ a :: b :: older) : b < a ∧ ∃ n ca cb, LongestAt cs a (n + 1) ∧
    LongestAt cs b n ∧ cs[a]? = some ca ∧ cs[b]? = some cb ∧ cb.rank ≤ ca.rank ∧
    ∀ k ck, b < k → k < a → cs[k]? = some ck → ck.rank ≤ ca.rank → ¬ LongestAt cs k n := by
  induction cs using List.reverseRecOn generalizing q newer with
  | nil => exact absurd h.symm (by simp [placesOf, lengthsOf, chainLengths, pickPlaces])
  | append_singleton cs c ih =>
    have hlift (p : Rank) {newer : List Nat} (h : placesOf cs p = newer ++ a :: b :: older) :
        b < a ∧ ∃ n ca cb, LongestAt (cs ++ [c]) a (n + 1) ∧ LongestAt (cs ++ [c]) b n ∧ (cs ++ [c])[a]? = some ca ∧
          (cs ++ [c])[b]? = some cb ∧ cb.rank ≤ ca.rank ∧
          ∀ k ck, b < k → k < a → (cs ++ [c])[k]? = some ck → ck.rank ≤ ca.rank → ¬ LongestAt (cs ++ [c]) k n := by
      obtain ⟨hba, n, ca, cb, hla, hlb, hca, hcb, hle, hbetween⟩ := ih p h
      have ha : a < cs.length := (List.getElem?_eq_some_iff.mp hca).1
      refine ⟨hba, n, ca, cb, (longestAt_snoc ha).mpr hla, (longestAt_snoc (hba.trans ha)).mpr hlb, ?_, ?_, hle,
        fun k ck hbk hka hck hck' hlong => ?_⟩
      · rw [List.getElem?_append_left ha]; exact hca
      · rw [List.getElem?_append_left (hba.trans ha)]; exact hcb
      · rw [List.getElem?_append_left (hka.trans ha)] at hck
        exact hbetween k ck hbk hka hck hck' ((longestAt_snoc (hka.trans ha)).mp hlong)
    by_cases hpick : Picks cs c q
    · rw [placesOf_picks hpick] at h
      cases newer with
      | nil =>
        obtain ⟨rfl, hrest⟩ := List.cons.inj h
        obtain ⟨⟨d, hd, hle⟩, hlongest, hlater⟩ := placesOf_first cs c.rank hrest
        have hb : b < cs.length := (List.getElem?_eq_some_iff.mp hd).1
        refine ⟨hb, bestOf cs c.rank, c, d, ?_, (longestAt_snoc hb).mpr hlongest, List.getElem?_concat_length, ?_, hle,
          fun k ck hbk hka hck hck' hlong => ?_⟩
        · rw [Nat.add_comm]; exact longestAt_last cs c
        · rw [List.getElem?_append_left hb]; exact hd
        · rw [List.getElem?_append_left hka] at hck
          exact hlater k ck hbk hck hck' ((longestAt_snoc hka).mp hlong)
      | cons x newer => exact hlift c.rank (List.cons.inj h).2
    · rw [placesOf_passes hpick] at h
      exact hlift q h

/-- The last place picked has an L of 1 (R110). -/
theorem placesOf_last (cs : List Candidate) (q : Rank) {p : Nat} (h : (placesOf cs q).getLast? = some p) :
    LongestAt cs p 1 := by
  induction cs using List.reverseRecOn generalizing q with
  | nil => exact nomatch h
  | append_singleton cs c ih =>
    have hlift (r : Rank) (h : (placesOf cs r).getLast? = some p) : LongestAt (cs ++ [c]) p 1 :=
      (longestAt_snoc (placesOf_lt cs r p (List.mem_of_getLast? h))).mpr (ih r h)
    by_cases hpick : Picks cs c q
    · rw [placesOf_picks hpick] at h
      cases hrest : placesOf cs c.rank with
      | nil =>
        rw [hrest] at h
        obtain rfl := Option.some.inj h
        have hzero := (placesOf_eq_nil cs c.rank).mp hrest
        have hlast := longestAt_last cs c
        rwa [hzero] at hlast
      | cons x rest =>
        rw [hrest, List.getLast?_cons_cons, ← hrest] at h
        exact hlift c.rank h
    · rw [placesOf_passes hpick] at h
      exact hlift q h

/-! ### The whole chain -/

theorem rank_le_allOnes (x : Rank) : x ≤ BitVec.allOnes 32 := by
  rw [BitVec.le_def, BitVec.toNat_allOnes]
  have := x.isLt
  omega

theorem orderChain_eq (cs : List Candidate) : orderChain cs = chainOf cs (BitVec.allOnes 32) := by
  have hbest : ((lengthsOf cs).map Prod.snd).foldl max 0 = bestOf cs (BitVec.allOnes 32) := by
    rw [bestOf, bestBefore, List.filter_eq_self.mpr fun x _ => decide_eq_true (rank_le_allOnes x.1.rank)]
  rw [orderChain, chainOf, ← hbest]
  rfl

theorem placesOf_picksChain (cs : List Candidate) : PicksChain cs (placesOf cs (BitVec.allOnes 32)) where
  empty := by
    rw [placesOf_eq_nil]
    refine ⟨fun hzero => ?_, fun h => by rw [h]; rfl⟩
    cases cs with
    | nil => rfl
    | cons c cs =>
      have hone := (bestOf_spec (c :: cs) (BitVec.allOnes 32)).1 [c] (by simp) (List.pairwise_singleton _ c)
        fun x _ => rank_le_allOnes x.rank
      rw [hzero] at hone
      exact absurd hone (by simp)
  first p rest h := by
    obtain ⟨-, hlongest, hlater⟩ := placesOf_first cs _ h
    refine ⟨_, hlongest, fun k m hk => ?_⟩
    have hle := hk.1.le_bestOf (q := BitVec.allOnes 32) fun x _ => rank_le_allOnes x.rank
    obtain ⟨d, hd⟩ := hk.1.getElem?
    refine ⟨hle, fun hpk => lt_of_le_of_ne hle fun heq => ?_⟩
    exact hlater k d hpk hd (rank_le_allOnes d.rank) (heq ▸ hk)
  next newer a b older h := placesOf_next cs _ h
  last p h := placesOf_last cs _ h

/-! ### The item to follow (R111) -/

/-- In a chain whose ranks do not rise from the latest on, the first of rank q at most has the greatest such rank. -/
theorem find_greatest {chain : List Candidate} (hfalls : chain.Pairwise fun a b => b.rank ≤ a.rank) {rank : Rank}
    {c : Candidate} (h : chain.find? (fun c => decide (c.rank ≤ rank)) = some c) :
    ∃ newer older, chain = newer ++ c :: older ∧ c.rank ≤ rank ∧
      (∀ d ∈ chain, d.rank ≤ rank → d.rank ≤ c.rank) ∧ ∀ d ∈ newer, d.rank ≠ c.rank := by
  obtain ⟨hc, newer, older, rfl, hnewer⟩ := List.find?_eq_some_iff_append.mp h
  have hc := of_decide_eq_true hc
  have hnewer : ∀ d ∈ newer, ¬ d.rank ≤ rank := fun d hd => by simpa using hnewer d hd
  refine ⟨newer, older, rfl, hc, fun d hd hle => ?_, fun d hd heq => hnewer d hd (heq ▸ hc)⟩
  rcases List.mem_append.mp hd with hd | hd
  · exact absurd hle (hnewer d hd)
  · rcases List.mem_cons.mp hd with rfl | hd
    · exact BitVec.le_refl _
    · exact (List.pairwise_cons.mp (List.pairwise_append.mp hfalls).2.1).1 d hd

end

/-- Settles O17: `chainOf` among all candidates is the order chain, and its length is the greatest L, which `bestOf_spec`
ties to the longest rising part. -/
theorem orderChainIsLongest : Obligations.OrderChainIsLongest := by
  intro cs
  obtain ⟨hsub, hfalls, -, hlen⟩ := chainOf_spec cs (BitVec.allOnes 32)
  rw [orderChain_eq]
  refine ⟨hsub, List.pairwise_reverse.mpr hfalls, fun other hother hrises => ?_,
    ⟨_, placesOf_picksChain cs, chainOf_eq_places cs _⟩, fun rank => ?_, fun rank i hi => ?_⟩
  · rw [hlen]
    exact (bestOf_spec cs _).1 other hother hrises fun x _ => rank_le_allOnes x.rank
  · rw [shouldFollow, Option.map_eq_none_iff, List.find?_eq_none]
    exact forall₂_congr fun c _ => by rw [decide_eq_true_iff, BitVec.not_le]
  · obtain ⟨c, hfind, rfl⟩ := Option.map_eq_some_iff.mp hi
    obtain ⟨newer, older, hsplit, hle, hgreatest, hnewer⟩ := find_greatest hfalls hfind
    exact ⟨newer, c, older, hsplit, rfl, hle, hgreatest, hnewer⟩

end Sys2Proof.Machine
end

section
/-! The Deferred Queue applied (R135, R141): what each item, the tallies and the Findings Queue have after its events so far. -/

namespace Sys2Proof.Machine

/-! ### The words, for any list of events -/

/-- The event names item i (R127). -/
abbrev Names (s : State) (i : Nat) (e : CircEvent) : Prop := s.lookup e.tag = some i

/-- The record of item i after the events that name it have been applied in their order (R130). -/
def itemAfter (s : State) (es : List CircEvent) (i : Nat) (it : Item) : Item :=
  (es.filter fun e => decide (Names s i e)).foldl (fun it e => appliedItem e it) it

/-- The events that name a written item. -/
def namedIn (s : State) (es : List CircEvent) : Nat := es.countP fun e => ((s.lookup e.tag).bind s.item).isSome

/-- The REVISED that an event brings about after the events `done` (R131). -/
def revisedBy (s : State) (done : List CircEvent) (e : CircEvent) : Option Finding :=
  (s.lookup e.tag).bind fun i => (s.item i).bind fun it =>
    if (it.result = .missing ∨ it.result = .unverified) ∧ ∀ f ∈ done, s.lookup f.tag ≠ some i then
      some (accountedFinding s.clock.value i it)
    else none

/-- The REVISED findings of events in their order (R131). -/
def revisedOf (s : State) (es : List CircEvent) : List Finding :=
  (List.range es.length).filterMap fun k => (es[k]?).bind (revisedBy s (es.take k))

section
variable {s t u : State} {done : List CircEvent} {e : CircEvent} {i : Nat} {it : Item}

theorem scanFindings_eq (s : State) : scanFindings s = revisedOf s s.circ.deferred := rfl

theorem itemAfter_nil (s : State) (i : Nat) (it : Item) : itemAfter s [] i it = it := rfl

theorem itemAfter_snoc (done : List CircEvent) (e : CircEvent) (i : Nat) (it : Item) : itemAfter s (done ++ [e]) i it =
    if Names s i e then appliedItem e (itemAfter s done i it) else itemAfter s done i it := by
  unfold itemAfter
  rw [List.filter_append, List.foldl_append]
  by_cases h : Names s i e
  · rw [if_pos h, List.filter_cons_of_pos (by simpa using h)]; rfl
  · rw [if_neg h, List.filter_cons_of_neg (by simpa using h)]; rfl

/-- An item that no event names keeps its record. -/
theorem itemAfter_unnamed (h : ∀ e ∈ done, ¬ Names s i e) : itemAfter s done i it = it := by
  rw [itemAfter, List.filter_eq_nil_iff.mpr fun e he => by simpa using h e he, List.foldl_nil]

/-- A second application leaves what it alone would leave: the first has made the result ACCOUNTED or kept it (R130). -/
theorem AppliedTo.again {it it' : Item} {status : CircStatus} {arrival : Time} (h : AppliedTo it it' status arrival)
    (e : CircEvent) : AppliedTo it (appliedItem e it') (newStatus e) e.arrival := by
  obtain ⟨hframe, hexplained, hkept⟩ := h
  refine ⟨?_, fun hx => ?_, fun hx => ?_⟩
  · unfold appliedItem; rw [hframe]
  · rw [appliedItem, hexplained hx]; rfl
  · have hnot : ¬ Explained it'.result := by rwa [hkept hx]
    rw [← hkept hx]
    exact if_neg fun hr => hnot ((explained_iff _).mp hr)

/-- Events that name the item leave it as the last of them alone would (R130). -/
theorem foldl_appliedItem (es : List CircEvent) (e : CircEvent) (it : Item) :
    AppliedTo it ((es ++ [e]).foldl (fun it e => appliedItem e it) it) (newStatus e) e.arrival := by
  induction es using List.reverseRecOn generalizing e with
  | nil => exact appliedItem_appliedTo e it
  | append_singleton es d ih =>
    rw [List.foldl_append]
    exact (ih d).again e

/-- Each item takes what the last event that names it gives (R135). -/
theorem itemAfter_last {older newer : List CircEvent} (h : Names s i e) (hlast : ∀ f ∈ newer, ¬ Names s i f) (it : Item) :
    AppliedTo it (itemAfter s (older ++ e :: newer) i it) (statusOf e) e.arrival := by
  have hfilter : (older ++ e :: newer).filter (fun e => decide (Names s i e)) =
      older.filter (fun e => decide (Names s i e)) ++ [e] := by
    have hnewer : newer.filter (fun e => decide (Names s i e)) = [] :=
      List.filter_eq_nil_iff.mpr fun f hf => by simpa using hlast f hf
    rw [List.filter_append, List.filter_cons_of_pos (by simpa using h), hnewer]
  rw [itemAfter, hfilter]
  exact foldl_appliedItem _ e it

/-- What applications leave of a record: all but status, status time and result; the latter turns ACCOUNTED at most. -/
theorem itemAfter_or (s : State) (done : List CircEvent) (i : Nat) (it : Item) :
    ((∀ f ∈ done, ¬ Names s i f) ∧ itemAfter s done i it = it) ∨
      ((∃ f ∈ done, Names s i f) ∧ ∃ status arrival, AppliedTo it (itemAfter s done i it) status arrival) := by
  induction done using List.reverseRecOn with
  | nil => exact .inl ⟨fun _ h => absurd h List.not_mem_nil, rfl⟩
  | append_singleton done e ih =>
    by_cases h : Names s i e
    · exact .inr ⟨⟨e, by simp, h⟩, _, _, itemAfter_last h (fun _ hf => absurd hf List.not_mem_nil) it⟩
    · rw [itemAfter_snoc, if_neg h]
      refine ih.imp (fun ⟨hnone, hsame⟩ => ⟨fun f hf => ?_, hsame⟩) fun ⟨⟨f, hf, hn⟩, happ⟩ => ⟨⟨f, by simp [hf], hn⟩, happ⟩
      rcases List.mem_append.mp hf with hf | hf
      · exact hnone f hf
      · rw [List.mem_singleton.mp hf]; exact h

theorem namedIn_snoc (done : List CircEvent) (e : CircEvent) : namedIn s (done ++ [e]) =
    namedIn s done + if ((s.lookup e.tag).bind s.item).isSome then 1 else 0 := by
  rw [namedIn, List.countP_append, List.countP_singleton]; rfl

theorem namedIn_le (s : State) (done : List CircEvent) : namedIn s done ≤ done.length := List.countP_le_length

theorem revisedOf_snoc (done : List CircEvent) (e : CircEvent) :
    revisedOf s (done ++ [e]) = revisedOf s done ++ (revisedBy s done e).toList := by
  unfold revisedOf
  rw [List.length_append, List.length_singleton, List.range_succ, List.filterMap_append]
  congr 1
  · refine List.filterMap_congr fun k hk => ?_
    have hk := List.mem_range.mp hk
    rw [List.getElem?_append_left hk, List.take_append_of_le_length hk.le]
  · rw [List.filterMap_cons, List.getElem?_concat_length, Option.bind_some, List.take_left]
    cases revisedBy s done e <;> rfl

/-- The item the event names is explained by it exactly where a REVISED is due: an earlier application has left no
result to explain (R130, R131). -/
theorem revisedBy_eq (hi : Names s i e) (hit : s.item i = some it) (ht : t.clock = s.clock) :
    revisedBy s done e = applyFinding t i (itemAfter s done i it) := by
  unfold revisedBy applyFinding
  rw [hi, Option.bind_some, hit, Option.bind_some, ht]
  rcases itemAfter_or s done i it with ⟨hnone, hsame⟩ | ⟨⟨f, hf, hnamed⟩, status, arrival, hframe, hexplained, hkept⟩
  · rw [hsame]
    exact if_congr ((and_iff_left hnone).trans (explained_iff _).symm) rfl rfl
  · rw [if_neg fun h => h.2 f hf hnamed, if_neg]
    rw [explained_iff]
    intro hx
    by_cases h : Explained it.result
    · rw [hexplained h] at hx
      exact absurd hx (by simp [Explained])
    · exact h (hkept h ▸ hx)

/-- Where no item has a result to explain, no REVISED is due (R131). -/
theorem revisedOf_eq_nil (h : ∀ i it, s.item i = some it → ¬ Explained it.result) (es : List CircEvent) :
    revisedOf s es = [] := by
  refine List.filterMap_eq_nil_iff.mpr fun k _ => Option.bind_eq_none_iff.mpr fun e _ => ?_
  refine Option.bind_eq_none_iff.mpr fun i _ => Option.bind_eq_none_iff.mpr fun it hit => ?_
  exact if_neg fun hx => h i it hit hx.1

/-! ### Findings pushed one after another -/

theorem PushedAll.refl (h : s.findq.lostTally ≤ 4294967295) : PushedAll s s [] := by
  simp [PushedAll, raised, h]

theorem PushedAll.of_findq {v w : State} {fs : List Finding} (h : PushedAll s t fs) (hs : v.findq = s.findq)
    (ht : w.findq = t.findq) : PushedAll v w fs := by
  unfold PushedAll at h ⊢
  rw [ht, h, hs]

theorem PushedAll.snoc {fs : List Finding} {f : Option Finding} (h : PushedAll s t fs) (k : PushedIfAny t u f) :
    PushedAll s u (fs ++ f.toList) := by
  cases f with
  | none =>
    rw [Option.toList_none, List.append_nil]
    exact h.of_findq rfl k
  | some f =>
    unfold PushedAll at h ⊢
    have hlen : t.findq.records.length = s.findq.records.length + min (256 - s.findq.records.length) fs.length := by
      rw [h, List.length_append, List.length_take]
    by_cases hroom : t.findq.records.length < 256
    · have hfs : fs.length < 256 - s.findq.records.length := by omega
      rw [k.1 hroom, h, Option.toList_some, List.take_of_length_le hfs.le, List.take_of_length_le (by simp; omega),
        List.length_append, List.length_singleton, List.append_assoc]
      rw [decide_eq_false (Nat.not_lt.mpr hfs.le), decide_eq_false (Nat.not_lt.mpr hfs), Nat.sub_eq_zero_of_le hfs.le,
        Nat.sub_eq_zero_of_le (by omega)]
    · have hfs : 256 - s.findq.records.length ≤ fs.length := by omega
      rw [k.2 (Nat.not_lt.mp hroom), h, Option.toList_some, List.take_append_of_le_length hfs, raised_raised,
        List.length_append, List.length_singleton]
      rw [decide_eq_true (Nat.lt_succ_of_le hfs), Bool.or_true, Nat.sub_add_comm hfs]

/-! ### The events so far -/

/-- What has become of s in u, the events `done` having been applied (R135, R141). -/
structure Scanned (s : State) (done : List CircEvent) (u : State) : Prop where
  items : ∀ i, u.item i = (s.item i).map (itemAfter s done i)
  store : u.store = { s.store with items := u.store.items }
  circ : u.circ = { s.circ with applied := u.circ.applied, ignored := u.circ.ignored }
  tallies : s.circ.applied ≤ 4294967295 → s.circ.ignored ≤ 4294967295 →
    u.circ.applied = raised s.circ.applied (namedIn s done) ∧
    u.circ.ignored = raised s.circ.ignored (done.length - namedIn s done)
  pushed : s.findq.lostTally ≤ 4294967295 → PushedAll s u (revisedOf s done)
  quiet : revisedOf s done = [] → u.findq = s.findq
  rest : u = { s with store := u.store, circ := u.circ, findq := u.findq, notices := u.notices }

theorem Scanned.nil (s : State) : Scanned s [] s where
  items i := by cases s.item i <;> rfl
  store := rfl
  circ := rfl
  tallies ha hi := by simp [raised, namedIn, ha, hi]
  pushed h := .refl h
  quiet _ := rfl
  rest := rfl

/-- The Tag Index stays. -/
theorem Scanned.lookup (h : Scanned s done u) (t : Tag) : u.lookup t = s.lookup t :=
  congrArg (fun index : Table Nat => tget index t.toNat) (by rw [h.store] : u.store.tagIndex = s.store.tagIndex)

/-- An event that names no written item is counted as ignored (R141). -/
theorem Scanned.ignores (h : Scanned s done u) (hnone : (s.lookup e.tag).bind s.item = none) :
    Scanned s (done ++ [e]) (ignoreEvent u) where
  items i := by
    refine (h.items i).trans ?_
    cases hi : s.item i with
    | none => rfl
    | some it =>
      have hnot : ¬ Names s i e := fun hn => by rw [hn, Option.bind_some, hi] at hnone; cases hnone
      rw [Option.map_some, Option.map_some, itemAfter_snoc, if_neg hnot]
  store := h.store
  circ := by
    unfold ignoreEvent
    dsimp only
    rw [h.circ]
  tallies ha hi := by
    obtain ⟨happlied, hignored⟩ := h.tallies ha hi
    have hle := namedIn_le s done
    rw [namedIn_snoc, hnone, List.length_append, List.length_singleton]
    refine ⟨happlied, (congrArg (raised · 1) hignored).trans ?_⟩
    rw [raised_raised]
    congr 1
    simp
    omega
  pushed hl := by
    have hby : revisedBy s done e = none := by
      unfold revisedBy
      cases hl : s.lookup e.tag with
      | none => rfl
      | some i =>
        rw [hl, Option.bind_some] at hnone
        rw [Option.bind_some, hnone]; rfl
    rw [revisedOf_snoc, hby]
    exact (h.pushed hl).snoc (f := none) rfl
  quiet hnil := by
    rw [revisedOf_snoc, List.append_eq_nil_iff] at hnil
    exact h.quiet hnil.1
  rest := by
    have hrest := h.rest
    rw [hrest]
    rfl

/-- An event that names an item is applied to its record as it then stands (R130). -/
theorem Scanned.applies (h : Scanned s done u) (hn : Names s i e) (hit : s.item i = some it) :
    Scanned s (done ++ [e]) (applyEvent u e i (itemAfter s done i it)) := by
  obtain ⟨hstore, hcirc, hpush, hframe⟩ := applyEvent_spec u e i (itemAfter s done i it)
  obtain ⟨hown, hothers⟩ := applyEvent_item u e i (itemAfter s done i it)
  generalize applyEvent u e i (itemAfter s done i it) = v at hstore hcirc hpush hframe hown hothers
  constructor
  case items =>
    intro j
    by_cases hj : j = i
    · subst hj
      rw [hown, hit, Option.map_some, itemAfter_snoc, if_pos hn]
    · rw [hothers j hj, h.items]
      congr 1
      funext jt
      rw [itemAfter_snoc, if_neg fun hn' => hj (Option.some.inj (hn'.symm.trans hn))]
  case store =>
    rw [hstore, State.setItem, h.store]
  case circ => rw [hcirc, h.circ]
  case tallies =>
    intro ha hi
    obtain ⟨happlied, hignored⟩ := h.tallies ha hi
    have hsome : ((s.lookup e.tag).bind s.item).isSome = true := by rw [hn, Option.bind_some, hit]; rfl
    rw [namedIn_snoc, if_pos hsome, hcirc, List.length_append, List.length_singleton]
    refine ⟨(congrArg (raised · 1) happlied).trans (raised_raised ..), hignored.trans ?_⟩
    congr 1
    omega
  case pushed =>
    intro hl
    have hclock : u.clock = s.clock := by rw [h.rest]
    rw [revisedOf_snoc, revisedBy_eq hn hit hclock]
    exact (h.pushed hl).snoc hpush
  case quiet =>
    intro hnil
    have hclock : u.clock = s.clock := by rw [h.rest]
    rw [revisedOf_snoc, List.append_eq_nil_iff, revisedBy_eq hn hit hclock] at hnil
    rw [Option.toList_eq_nil_iff.mp hnil.2] at hpush
    exact Eq.trans hpush (h.quiet hnil.1)
  case rest =>
    have hrest := h.rest
    rw [hrest] at hframe
    exact hframe

/-- Each event is applied, or counted as ignored (R135, R141). -/
theorem Scanned.next (h : Scanned s done u) (e : CircEvent) : Scanned s (done ++ [e]) (applyDeferred u e) := by
  cases hb : (s.lookup e.tag).bind s.item with
  | none =>
    have hnone : lookupItem u e.tag = none := lookupItem_eq_none fun i hi => by
      rw [h.lookup] at hi
      rw [hi, Option.bind_some] at hb
      rw [h.items, hb]; rfl
    rw [applyDeferred, hnone]
    exact h.ignores hb
  | some it =>
    obtain ⟨i, hi, hit⟩ := Option.bind_eq_some_iff.mp hb
    have hsome : lookupItem u e.tag = some (i, itemAfter s done i it) :=
      lookupItem_eq_some ((h.lookup _).trans hi) (by rw [h.items, hit]; rfl)
    rw [applyDeferred, hsome]
    exact h.applies hi hit

theorem scanned_foldl (s : State) (es : List CircEvent) : Scanned s es (es.foldl applyDeferred s) := by
  induction es using List.reverseRecOn with
  | nil => exact .nil s
  | append_singleton es e ih =>
    rw [List.foldl_append]
    exact ih.next e

/-! ### The whole queue -/

/-- The Deferred Queue applied is then emptied (R135). -/
theorem drainDeferred_scanned (s : State) : ∃ u, Scanned s s.circ.deferred u ∧
    (drainDeferred s).circ = { u.circ with deferred := [] } ∧
    drainDeferred s = { u with circ := (drainDeferred s).circ, notices := (drainDeferred s).notices } :=
  ⟨_, scanned_foldl s _, rfl, rfl⟩

/-- The scan applies the queue and goes on to the next segment, if any (R122). -/
theorem exec_deferredScan (h : s.settle.engine = .scanning) : exec .deferredScan s = .next
    { drainDeferred s with settle := { (drainDeferred s).settle with
        engine := if (drainDeferred s).settle.queue.isEmpty then .idle else .taking } } := by
  change execDeferredScan s = _
  simp only [execDeferredScan, h]

/-! ### The events of a frame -/

/-- An event of a frame changes records, tallies, findings and notices alone. -/
theorem takeEvent_frame (now : Time) (s : State) (w : WireEvent) : takeEvent now s w =
    { s with store := (takeEvent now s w).store, circ := (takeEvent now s w).circ,
             findq := (takeEvent now s w).findq, notices := (takeEvent now s w).notices } := by
  unfold takeEvent
  split
  next => rfl
  next e _ =>
    split
    next => rfl
    next i it _ =>
      split
      · rcases Nat.lt_or_ge s.circ.deferred.length 32 with hroom | hfull
        · rw [(deferEvent_joins e i it hroom).2]
        · rw [(deferEvent_drops e i it hfull).2.2]
      · obtain ⟨-, -, -, hframe⟩ := applyEvent_spec s e i it
        rw [hframe]

end

/-- Settles O49: `exec_circ` takes the first event, and `drainDeferred_scanned` says what the events of the queue leave. -/
theorem eventsAreTakenInOrder : Obligations.EventsAreTakenInOrder := by
  refine ⟨fun s w rest hr h1 h7 => ?_, fun s hengine htallies => ?_⟩
  · have hframe := takeEvent_frame s.clock.value s w
    have hexec (ws : List WireEvent) (hle : ws.length ≤ 7) :
        exec (.circ (w :: ws)) s = .next (ws.foldl (takeEvent s.clock.value) (takeEvent s.clock.value s w)) :=
      exec_circ hr (by simp) (Nat.succ_le_succ hle)
    generalize takeEvent s.clock.value s w = t at hframe hexec
    have hclock : t.clock = s.clock := by rw [hframe]
    have hreceives : Receives t .trunk := by rw [hframe]; exact hr
    refine ⟨t, hexec [] (by simp), ?_, hclock, hreceives⟩
    rw [hexec rest h7, exec_circ hreceives h1 (by omega), hclock]
  · obtain ⟨u, hu, hcirc, hframe⟩ := drainDeferred_scanned s
    rw [exec_deferredScan hengine]
    generalize drainDeferred s = t at hcirc hframe
    have hrest := hu.rest
    have hsettle : t.settle = s.settle := by rw [hframe, hrest]
    have hstore : t.store = u.store := by rw [hframe]
    have hfindq : t.findq = u.findq := by rw [hframe]
    have hitem (i : Nat) : t.item i = (s.item i).map (itemAfter s s.circ.deferred i) :=
      (congrArg (fun x : Store => tget x.items i) hstore).trans (hu.items i)
    obtain ⟨happlied, hignored⟩ := hu.tallies htallies.circ.1 htallies.circ.2.2.1
    refine ⟨_, rfl, ?_, (by rw [hsettle]), ?_, fun i hi => ?_, fun i it hi hnone => ?_,
      fun i it older e newer hi hqueue he hlast => ?_, ⟨?_, ?_⟩, ?_, ?_, ?_, ?_, ?_⟩
    · change t.circ.deferred = []
      rw [hcirc]
    · change (if t.settle.queue.isEmpty then _ else _) = _
      simp only [hsettle, List.isEmpty_iff]
    · exact (hitem i).trans (by rw [hi]; rfl)
    · exact (hitem i).trans (by rw [hi, Option.map_some, itemAfter_unnamed hnone])
    · refine ⟨_, (hitem i).trans (by rw [hi]; rfl), ?_⟩
      rw [hqueue]
      exact itemAfter_last he hlast it
    · change t.circ.applied = _
      rw [hcirc]; exact happlied
    · change t.circ.ignored = _
      rw [hcirc]; exact hignored
    · rw [scanFindings_eq]
      exact (hu.pushed htallies.findings).of_findq rfl hfindq
    · change t.circ.deferredTally = _
      rw [hcirc, hu.circ]
    · change t.circ.dropped = _
      rw [hcirc, hu.circ]
    · change t.store = { s.store with items := t.store.items }
      rw [hstore]; exact hu.store
    · rw [hrest] at hframe
      rw [hframe]

end Sys2Proof.Machine
end

section
/-! A count restart as a whole (R187): the parts of `countCleared`, the deferred events, and the two queues emptied. -/

namespace Sys2Proof.Machine

section
variable {s : State}

theorem findingInProgress_iff (s : State) : findingInProgress s = true ↔ (s.trunk.tx.map (·.what)) = some .finding := by
  unfold findingInProgress
  split
  next _ h => simp [h]
  next h =>
    simp only [Bool.false_eq_true, false_iff, Option.map_eq_some_iff, not_exists, not_and]
    rintro ⟨what, frame⟩ htx rfl
    exact h frame htx

theorem fieldOutInProgress_iff (s : State) : fieldOutInProgress s = true ↔ (s.field.tx.map (·.what)) = some .queued := by
  unfold fieldOutInProgress
  split
  next _ h => simp [h]
  next h =>
    simp only [Bool.false_eq_true, false_iff, Option.map_eq_some_iff, not_exists, not_and]
    rintro ⟨what, frame⟩ htx rfl
    exact h frame htx

/-- The Findings Queue after a count restart (R155). -/
def restartedFindings (s : State) : FindingsQueue := { s.findq with
  records := if (s.trunk.tx.map (·.what)) = some .finding then s.findq.records.take 1 else [], lost := false }

/-- The Field-Out Queue after a count restart (R170). -/
def restartedOut (s : State) : List OutFrame :=
  if (s.field.tx.map (·.what)) = some .queued then s.field.out.take 1 else []

/-- Every result is reset before the deferred events are applied, so none of them makes a finding (R21, R187). -/
theorem countCleared_revised (s : State) (es : List CircEvent) : revisedOf (countCleared s) es = [] := by
  refine revisedOf_eq_nil (fun i it hit => ?_) es
  rw [countCleared_item] at hit
  obtain ⟨old, -, rfl⟩ := Option.map_eq_some_iff.mp hit
  exact fun hx => hx.elim nofun nofun

/-- What a count restart leaves, part by part (R187). -/
theorem restartCount_spec (s : State) : ∃ u, Scanned (countCleared s) s.circ.deferred u ∧
    restartCount s = { s with
      lanes := (lanesRestarted s).lanes
      field := { (lanesRestarted s).field with out := restartedOut s }
      store := u.store, pool := { contexts := Vector.replicate 16 none, freeSlots := 4096 }
      settle := { queue := [], engine := .idle }, circ := { u.circ with deferred := [] }
      findq := restartedFindings s, notices := (restartCount s).notices } := by
  have hframe := countCleared_frame s
  have hfield := (lanesRestarted_only s).field
  have hquiet := countCleared_revised s s.circ.deferred
  rw [restartCount_eq]
  generalize lanesRestarted s = lanes at hframe hfield
  generalize countCleared s = c at hframe hquiet
  have hdeferred : c.circ.deferred = s.circ.deferred := by rw [hframe]
  obtain ⟨u, hu, hcirc, hdrain⟩ := drainDeferred_scanned c
  generalize drainDeferred c = d at hcirc hdrain
  rw [hdeferred] at hu
  refine ⟨u, hu, ?_⟩
  have hrest := hu.rest
  have hfindq : u.findq = s.findq := (hu.quiet hquiet).trans (by rw [hframe])
  rw [hframe] at hrest
  have htrunk : d.trunk = s.trunk := by rw [hdrain, hrest]
  have hout : d.field = lanes.field := by rw [hdrain, hrest]
  have hq : d.findq = s.findq := by rw [hdrain]; exact hfindq
  have hfindings : (emptyFindings d).findq = restartedFindings s := by
    rw [emptyFindings, withEdges_findq, restartedFindings]
    dsimp only
    simp only [findingInProgress_iff, htrunk, hq]
  have hfieldout : (emptyFieldOut (emptyFindings d)).field = { lanes.field with out := restartedOut s } := by
    rw [emptyFieldOut, restartedOut]
    dsimp only
    simp only [fieldOutInProgress_iff, emptyFindings, withEdges_field, hout]
    rw [hfield]
  have hempty : emptyFieldOut (emptyFindings d) = { d with
      field := (emptyFieldOut (emptyFindings d)).field, findq := (emptyFindings d).findq
      notices := (emptyFieldOut (emptyFindings d)).notices } := rfl
  generalize emptyFieldOut (emptyFindings d) = e at hfieldout hempty
  rw [hfindings, hfieldout, hdrain, hcirc, hrest] at hempty
  exact hempty

/-- A count restart leaves the Tag Index. -/
theorem countCleared_lookup (s : State) (tag : Tag) : (countCleared s).lookup tag = s.lookup tag := by
  unfold State.lookup
  rw [countCleared_store]

theorem itemAfter_countCleared (s : State) (es : List CircEvent) (i : Nat) (it : Item) :
    itemAfter (countCleared s) es i it = itemAfter s es i it := by
  unfold itemAfter
  simp only [Names, countCleared_lookup]

theorem namedIn_countCleared (s : State) (es : List CircEvent) : namedIn (countCleared s) es = namedIn s es := by
  refine congrArg (fun p => List.countP p es) (funext fun e => ?_)
  rw [countCleared_lookup]
  cases s.lookup e.tag with
  | none => rw [Option.bind_none, Option.bind_none]
  | some i =>
    rw [Option.bind_some, Option.bind_some, countCleared_item]
    exact Option.isSome_map

/-- The three tables after a count restart (R21, R141). -/
theorem restartCount_store (s : State) :
    (∀ g, (restartCount s).segment g = (s.segment g).map restartSegment) ∧
    (∀ i, (restartCount s).item i = (s.item i).map fun it => itemAfter s s.circ.deferred i (restartItem it)) ∧
    (restartCount s).store = { s.store with
      segments := (restartCount s).store.segments, items := (restartCount s).store.items } := by
  obtain ⟨u, hu, ht⟩ := restartCount_spec s
  generalize restartCount s = t at ht
  have hstore : t.store = u.store := by rw [ht]
  have hu' := hu.store
  rw [countCleared_store] at hu'
  refine ⟨fun g => ?_, fun i => ?_, ?_⟩
  · rw [State.segment, hstore, hu']
    exact tget_tmap (fun _ r => restartSegment r) s.store.segments g
  · have hsame : t.item i = u.item i := congrArg (fun x : Store => tget x.items i) hstore
    rw [hsame, hu.items, countCleared_item]
    cases s.item i with
    | none => rw [Option.map_none, Option.map_none, Option.map_none]
    | some it => rw [Option.map_some, Option.map_some, Option.map_some, itemAfter_countCleared]
  · rw [hstore, hu']

/-- The Circulation Unit after a count restart (R141). -/
theorem restartCount_circ (s : State) :
    (restartCount s).circ = { s.circ with
      deferred := [], applied := (restartCount s).circ.applied, ignored := (restartCount s).circ.ignored } ∧
    (s.circ.applied ≤ 4294967295 → s.circ.ignored ≤ 4294967295 →
      (restartCount s).circ.applied = raised s.circ.applied (namedIn s s.circ.deferred) ∧
      (restartCount s).circ.ignored =
        raised s.circ.ignored (s.circ.deferred.length - namedIn s s.circ.deferred)) := by
  obtain ⟨u, hu, ht⟩ := restartCount_spec s
  have hcirc : (restartCount s).circ = { u.circ with deferred := [] } := by rw [ht]
  have hclear : (countCleared s).circ = s.circ := by rw [countCleared_frame]
  have hframe := hu.circ
  have htallies := hu.tallies
  rw [hclear] at hframe htallies
  rw [namedIn_countCleared] at htallies
  rw [hcirc]
  exact ⟨by rw [hframe], htallies⟩

/-- The lanes, with their control signals, and the rest of the Field Port after a count restart (R44, R62, R170). -/
theorem restartCount_lanes (s : State) :
    (∀ l, laneAndSignal (restartCount s) l = restartedLane (laneAndSignal s l)) ∧
    (restartCount s).lanes.next = s.lanes.next ∧
    (restartCount s).field = { s.field with signals := (restartCount s).field.signals, out := restartedOut s } := by
  obtain ⟨u, -, ht⟩ := restartCount_spec s
  obtain ⟨hnext, hfield, -⟩ := lanesRestarted_only s
  have hlane := lanesRestarted_lane s
  generalize restartCount s = t at ht
  generalize lanesRestarted s = lanes at ht hnext hfield hlane
  rw [ht]
  exact ⟨hlane, hnext, by dsimp only; rw [hfield]⟩

/-- The other parts after a count restart (R85, R125, R155). -/
theorem restartCount_frame (s : State) : restartCount s = { s with
    lanes := (restartCount s).lanes, field := (restartCount s).field, store := (restartCount s).store
    pool := { contexts := Vector.replicate 16 none, freeSlots := 4096 }, settle := { queue := [], engine := .idle }
    circ := (restartCount s).circ, findq := restartedFindings s, notices := (restartCount s).notices } := by
  obtain ⟨u, -, ht⟩ := restartCount_spec s
  generalize restartCount s = t at ht
  rw [ht]

end

theorem Waiting.exec_restartCount {s : State} {before after : List Slot} {sl : Slot}
    (hw : Waiting s before sl after .restartCount) :
    exec .restartCount s = .next (restartCount (beginService s .restart)) := by
  change execRestartCount s = _
  simp only [execRestartCount, hw.next]

theorem InWork.exec_restartCountComplete {s : State} {before after : List Slot} {sl : Slot}
    (hw : InWork s before sl after .restartCount .restart) :
    exec .restartCountComplete s = .next (answerHead s { status := .ok }) := by
  change execRestartCountComplete s = _
  simp only [execRestartCountComplete, hw.inService]

/-- The record of an item after a count restart: what R21 resets, then what the last event that names it gives (R141). -/
theorem itemAfter_restartItem (s : State) (es : List CircEvent) (i : Nat) (it : Item) :
    let it' := itemAfter s es i (restartItem it)
    it'.tag = it.tag ∧ it'.rank = it.rank ∧ it'.home = it.home ∧ it'.result = .uncounted ∧ it'.placed = none ∧
      it'.estimate = none ∧ it'.stamp = none ∧ it'.hold = false := by
  have hframe : ∃ status time, itemAfter s es i (restartItem it) =
      { restartItem it with status := status, statusTime := time } := by
    rcases itemAfter_or s es i (restartItem it) with ⟨-, hsame⟩ | ⟨-, status, arrival, happ, -, hkept⟩
    · exact ⟨_, _, hsame⟩
    · rw [hkept fun hx => hx.elim nofun nofun] at happ
      exact ⟨_, _, happ⟩
  obtain ⟨status, time, hframe⟩ := hframe
  rw [hframe]
  exact ⟨rfl, rfl, rfl, rfl, rfl, rfl, rfl, rfl⟩

/-- Settles O30, by the parts of `restartCount` in the state in which the request holds the head of the queue. -/
theorem restartCountResetsTheCount : Obligations.RestartCountResetsTheCount := by
  refine ⟨fun s before after sl hw => ?_, fun s before after sl hw => ?_⟩
  · obtain ⟨hbegins, hbegun⟩ := hw.begins .restart
    refine ⟨_, hw.exec_restartCount, ?_⟩
    generalize beginService s .restart = b at hbegins hbegun
    obtain ⟨r, rfl⟩ : ∃ r, b = { s with requests := r } := ⟨_, hbegun⟩
    obtain ⟨hsegment, hitem, hstore⟩ := restartCount_store { s with requests := r }
    obtain ⟨hcirc, htallies⟩ := restartCount_circ { s with requests := r }
    obtain ⟨hlane, hnext, hfield⟩ := restartCount_lanes { s with requests := r }
    have hframe := restartCount_frame { s with requests := r }
    generalize restartCount { s with requests := r } = t at *
    have hnone := hitem
    have hitem (i : Nat) (it : Item) (hi : s.item i = some it) :
        t.item i = some (itemAfter s s.circ.deferred i (restartItem it)) :=
      (hitem i).trans (congrArg (Option.map _) hi)
    have hpool : t.pool = { contexts := Vector.replicate 16 none, freeSlots := 4096 } := by rw [hframe]
    have hfindq : t.findq = restartedFindings s := by rw [hframe]; rfl
    refine ⟨?_, fun g r hr => (hsegment g).trans (congrArg (Option.map restartSegment) hr),
      fun g hg => (hsegment g).trans (congrArg (Option.map restartSegment) hg),
      fun i hi => (hnone i).trans (congrArg (Option.map _) hi), fun i it hi => ?_,
      fun h => htallies h.circ.1 h.circ.2.2.1, by rw [hstore], by rw [hstore], by rw [hstore],
      fun l hl => ?_, fun l hl => ?_, hnext, fun c => ?_, by rw [hpool], by rw [hframe], by rw [hcirc], by rw [hcirc],
      by rw [hcirc], by rw [hfindq]; rfl, by rw [hfindq]; rfl, by rw [hfindq]; rfl, by rw [hfield]; rfl, by rw [hfield],
      by rw [hfield], by rw [hfield], by rw [hfield], by rw [hfield], ?_, ?_, ?_, ?_⟩
    · rw [hframe]; exact hbegins
    · obtain ⟨htag, hrank, hhome, hresult, hplaced, hestimate, hstamp, hhold⟩ :=
        itemAfter_restartItem s s.circ.deferred i it
      refine ⟨_, hitem i it hi, htag, hrank, hhome, hresult, hplaced, hestimate, hstamp,
        hhold, fun hnone => ?_, fun older e newer hqueue he hlast => ?_⟩
      · have hkept := itemAfter_unnamed hnone (it := restartItem it)
        rw [hkept]
        exact ⟨rfl, rfl⟩
      · have hlast := (itemAfter_last (older := older) he hlast (restartItem it)).1
        rw [hqueue, hlast]
        exact ⟨rfl, rfl⟩
    · have h := hlane l
      rw [restartedLane, if_pos (by exact hl)] at h
      exact (Prod.ext_iff.mp h).1
    · have h := hlane l
      rw [restartedLane, if_neg (by exact hl)] at h
      exact Prod.ext_iff.mp h
    · rw [State.context, hpool]; exact Vector.getElem_replicate c.isLt
    all_goals rw [hframe]
  · obtain ⟨hreply, hframe⟩ := hw.answers (u := s) { status := .ok } rfl
    exact ⟨_, hw.exec_restartCountComplete, hreply, hframe⟩

end Sys2Proof.Machine
end

section
/-! The layouts of section 9.7 in the words of Safety.lean: frames sent and frames received (R158, R159, 9.7.2 to 9.7.6). -/

namespace Sys2Proof.Machine

/-- One byte is a number in one byte. -/
theorem wide_one (x : Nat) : wide 1 x = [BitVec.ofNat 8 x] := (be_eq_wide 1 x).symm

theorem be_eq : be = wide := funext fun k => funext (be_eq_wide k)

theorem signed1_eq : signed1 = wideSigned 1 := funext signed1_eq_wideSigned

theorem tallyBytes_eq : tallyBytes = elevenTallies := funext tallyBytes_eq_elevenTallies

theorem optional_eq : optional = maybe := funext fun k => funext (optional_eq_maybe k)

theorem flagByte_eq : flagByte = flag := funext flagByte_eq_flag

theorem frameBytes_eq : frameBytes = sentFrame := funext fun c => funext (frameBytes_eq_sentFrame c)

/-! ### Frames sent on the Field Link -/

theorem fieldLayouts : FieldLayouts where
  pause l := by rw [signalFrame, frameBytes_eq, be_eq]
  resume l := by rw [signalFrame, frameBytes_eq, be_eq]
  cue c := by rw [outFrameBytes, frameBytes_eq, be_eq, tallyBytes_eq, List.flatMap_def]
  laneMsg lane body := by rw [outFrameBytes, frameBytes_eq, wide_one]; rfl

/-! ### Frames sent on the Trunk Link -/

theorem codesOk : CodesOk where
  status := rfl
  finding := rfl
  result := rfl
  circulation := rfl
  circulationRead := circOfCode_eq_some
  event := rfl
  cause := rfl
  prior := rfl
  segment r := by
    refine ⟨rfl, ?_⟩
    cases h : r.phase <;> simp only [segmentCode, h]
  lane := ⟨rfl, rfl, fun _ _ => rfl, rfl, fun _ _ _ => rfl⟩
  context := by
    refine ⟨rfl, fun c l h => ?_, fun c l x h => ?_⟩ <;> unfold contextCode <;> simp only [h]
  engine := by
    refine ⟨rfl, rfl, rfl, fun w => ?_⟩
    cases h : w.kept <;> simp [engineCode, h]

/-- The flags of a finding in one byte (9.7.6). -/
theorem bitsToNat_two (a b : Bool) : bitsToNat [a, b] = (if a then 1 else 0) + if b then 2 else 0 := by
  cases a <;> cases b <;> rfl

/-- The presence word of fields (9.7.6). -/
theorem bitsToNat_isSome (fields : List (Option (List Byte))) : bitsToNat (fields.map Option.isSome) =
    ((List.range fields.length).map fun k => if ((fields[k]?).getD none).isSome then 2 ^ k else 0).sum := by
  rw [bitsToNat_eq_sum, List.length_map]
  refine congrArg List.sum (List.map_congr_left fun k _ => if_congr ?_ rfl rfl)
  rw [List.getElem?_map]
  cases fields[k]? with
  | none => simp
  | some x => simp

theorem findingFrame_layout (f : Finding) : findingFrame f = sentFrame 0x33
    (wide 1 (findingCode f.kind) ++ wide 4 f.time.toNat ++
      wide 1 ((if f.conflict then 1 else 0) + if f.truncated then 2 else 0) ++
      wide 2 ((List.range 16).map fun k => if (((presentFields f)[k]?).getD none).isSome then 2 ^ k else 0).sum ++
      (presentFields f).flatMap fun x => x.getD []) := by
  rw [findingFrame, frameBytes_eq, be_eq, findingFields_eq_presentFields, bitsToNat_two, bitsToNat_isSome,
    flatten_filterMap_id]
  rfl

theorem contextBytes_layout (n : Fin 16) (c : Context) : contextBytes n c =
    wide 1 n.val ++ wide 1 (contextCode (some c)) ++ wide 2 c.segment ++
      (match c.phase with
        | .opened l => maybe 1 (some (wide 1 l.val)) ++ maybe 1 none ++ maybe 1 none
        | .closed l cause => maybe 1 none ++ maybe 1 (some (wide 1 l.val)) ++ maybe 1 (some (wide 1 (causeCode cause)))) ++
      wide 1 (priorCode c.prior) ++ wide 4 c.openTime.toNat ++ flag c.truncated ++
      [c.capDiscards, c.poolDiscards, c.observations.length].flatMap (wide 2) := by
  rw [contextBytes, be_eq, optional_eq, flagByte_eq]
  cases c.phase <;> simp only [List.append_assoc, List.flatMap_cons, List.flatMap_nil, List.append_nil]

theorem segmentBytes_layout (r : Segment) : segmentBytes (some r) =
    maybe 2 (r.twin.map (wide 2)) ++ maybe 2 (some (wide 2 r.firstItem)) ++ maybe 2 (some (wide 2 r.itemCount)) ++
      maybe 2 (match r.phase with
        | .loading n => some (wide 2 n)
        | _ => none) ++
      wide 1 r.countNumber ++
      maybe 1 (match r.phase with
        | .counting c => some (wide 1 c.val)
        | .settling c => some (wide 1 c.val)
        | _ => none) ++
      maybe 1 (r.last.map fun x => wide 1 (causeCode x.1)) ++ maybe 22 (r.last.map fun x => elevenTallies x.2) := by
  rw [segmentBytes, be_eq, optional_eq, tallyBytes_eq]
  cases h : r.phase <;> simp only [h, Option.bind_some, Option.map_some, Option.getD_some]

theorem trunkLayouts : TrunkLayouts where
  reply r := by rw [replyFrame, frameBytes_eq, be_eq]
  notice conditions latches := by rw [noticeFrame, frameBytes_eq, conditionBytes, conditionBytes, be_eq]
  finding := findingFrame_layout
  plain := rfl
  device f := by
    simp only [bodyBytes, deviceBytes, conditionBytes, be_eq, flagByte_eq, wide_one, BitVec.ofNat_toNat,
      BitVec.setWidth_eq, List.append_assoc, List.flatMap_cons, List.flatMap_nil, List.append_nil]
  lanes fs := by
    rw [bodyBytes, List.flatMap_def]
    refine congrArg List.flatten (List.map_congr_left fun f _ => ?_)
    rw [laneBytes, be_eq, optional_eq, flagByte_eq]
  pool f := by
    rw [bodyBytes, be_eq, ← List.flatMap_def]
    simp only [contextBytes_layout, List.append_assoc, List.flatMap_cons, List.flatMap_nil, List.append_nil] <;> rfl
  settle f := by
    rw [bodyBytes, be_eq, optional_eq, flagByte_eq, List.flatMap_cons, List.flatMap_def]
    simp only [List.append_assoc]
  store f := by
    simp only [bodyBytes, be_eq, List.append_assoc, List.flatMap_cons, List.flatMap_nil, List.append_nil]
  knots k := by rw [bodyBytes, be_eq, List.flatMap_def]
  option code value := by rw [bodyBytes, be_eq, signed4_eq_wideSigned]
  window base limit := by rw [bodyBytes, be_eq]
  clock value set := by rw [bodyBytes, be_eq, flagByte_eq]
  counts n := by simp only [bodyBytes, be_eq, and_self]
  duplicate n item := by rw [bodyBytes, be_eq, optional_eq]
  unloaded := by rw [bodyBytes, segmentBytes, be_eq, optional_eq]; rfl
  segment := segmentBytes_layout
  item i it := by rw [bodyBytes, itemBytes, be_eq, optional_eq, flagByte_eq, signed1_eq]
  closed c n truncated state := by rw [bodyBytes, be_eq, flagByte_eq]
  notices conditions latches := by rw [bodyBytes, conditionBytes, conditionBytes, be_eq]
  codes := codesOk

/-! ### Frames received -/

/-- A REQUEST frame is laid out as its arguments are (9.7.3). -/
theorem arrivalFrame_request (tag : Byte) (req : Request) :
    arrivalFrame (.request tag req) = askedFrame tag (requestCode req) (argumentBytes req) := by
  rw [arrivalFrame, askedFrame, frameBytes_eq, wide_one]; rfl

theorem sightingBytes_layout (w : WireSighting) : sightingBytes w =
    wide 8 w.tag.toNat ++ wide 1 w.rssi.toNat ++ wide 2 (w.position + if w.positioned then 32768 else 0) := by
  rw [sightingBytes, be_eq]

theorem eventBytes_layout (e : WireEvent) : eventBytes e = wide 1 e.kind ++ wide 1 e.status ++ wide 8 e.tag.toNat := by
  rw [eventBytes, be_eq]

theorem recordBytes_layout (r : WireItem) :
    recordBytes r = wide 8 r.tag.toNat ++ wide 4 r.rank.toNat ++ wide 1 r.status := by
  rw [recordBytes, be_eq]

theorem arrivalLayouts : ArrivalLayouts where
  lane lane := by simp only [arrivalFrame, frameBytes_eq, wide_one, and_self]
  enter lane rel := by rw [arrivalFrame, frameBytes_eq, be_eq, wide_one]; rfl
  sight lane frame := by
    rw [arrivalFrame, frameBytes_eq, ← List.flatMap_def, funext sightingBytes_layout, wide_one, wide_one]; rfl
  laneMsg lane body := by rw [arrivalFrame, frameBytes_eq, wide_one]; rfl
  circ events := by
    rw [arrivalFrame, frameBytes_eq, ← List.flatMap_def, funext eventBytes_layout, wide_one]; rfl
  plain tag := by simp only [arrivalFrame_request, requestCode, argumentBytes, and_self]
  readStatus tag selector := by rw [arrivalFrame_request, argumentBytes, be_eq]; rfl
  option tag op code value := by rw [arrivalFrame_request, argumentBytes, be_eq]; rfl
  window tag lane base limit := by rw [arrivalFrame_request, argumentBytes, be_eq]; rfl
  clock tag value := by rw [arrivalFrame_request, argumentBytes, be_eq]; rfl
  begin tag g count presence twin := by rw [arrivalFrame_request, argumentBytes, be_eq]; rfl
  items tag g offset records := by
    rw [arrivalFrame_request, argumentBytes, ← List.flatMap_def, funext recordBytes_layout, be_eq]; rfl
  named tag g := by simp only [arrivalFrame_request, requestCode, argumentBytes, be_eq, and_self]
  item tag selector value := by rw [arrivalFrame_request, argumentBytes, be_eq]; rfl
  weights tag knots := by rw [arrivalFrame_request, argumentBytes, be_eq, ← List.flatMap_def]; rfl
  unknown tag kind args := by rw [arrivalFrame_request, argumentBytes]; rfl

end Sys2Proof.Machine
end

section
/-! The two transmitters (R164, R165, R167, R168): what they select, and what a frame sent in full leaves. -/

namespace Sys2Proof.Machine

/-! ### Ports that receive (R162, R170) -/

theorem receives_iff (s : State) (p : Port) : receives s p = true ↔ Receives s p := by
  have hheld : (!held s) = true ↔ s.resetPin = false ∧ ∀ sl ∈ s.requests.slots, sl.state ≠ .inService .reset := by
    rw [Bool.not_eq_true', ← Bool.not_eq_true, held_iff]
    simp
  cases p with
  | field => rw [receives, fieldReceives, Bool.and_eq_true, hheld]; rfl
  | trunk => rw [receives, trunkReceives, Bool.and_eq_true, hheld]; rfl

/-! ### The Field Port's transmitter (R168) -/

section
variable {s : State}

theorem maySelectField_iff : maySelectField s = true ↔ Receives s .field ∧ s.field.tx = none := by
  rw [maySelectField, Bool.and_eq_true, ← receives_iff, Option.isNone_iff_eq_none]; rfl

theorem exec_fieldSelect (h : Receives s .field) (htx : s.field.tx = none) :
    exec .fieldSelect s = .next (selectField s) :=
  congrArg Host.Outcome.next (if_pos (maySelectField_iff.mpr ⟨h, htx⟩))

/-- A pending control signal, the first from the control pointer on. -/
theorem selectField_signal {l : Fin 8} {sig : Signal} (hsig : s.field.signals[l.val] = some sig)
    (hfirst : ∀ k : Fin 8, k < l - s.field.controlPtr → s.field.signals[(s.field.controlPtr + k).val] = none) :
    selectField s = { s with field := { s.field with
      signals := s.field.signals.set l.val none l.isLt, controlPtr := l + 1,
      tx := some { what := .signal l sig, frame := signalFrame l sig } } } := by
  have hl : firstFrom s.field.controlPtr (fun l => (pendingSignal s l).isSome) = some l :=
    firstFrom_eq _ _ _ (by rw [pendingSignal, hsig]; rfl) fun k hk => by rw [pendingSignal, hfirst k hk]; rfl
  have hp : pendingSignal s l = some sig := hsig
  unfold selectField
  simp only [hl, hp]
  rfl

/-- No control signal pending (R168). -/
theorem firstFrom_signals (h : ∀ l : Fin 8, s.field.signals[l.val] = none) :
    firstFrom s.field.controlPtr (fun l => (pendingSignal s l).isSome) = none :=
  List.find?_eq_none.mpr fun l _ => by rw [pendingSignal, h l]; exact Bool.false_ne_true

theorem selectField_queued (h : ∀ l : Fin 8, s.field.signals[l.val] = none) {f : OutFrame} {rest : List OutFrame}
    (hout : s.field.out = f :: rest) :
    selectField s = s.setFieldTx (some { what := .queued, frame := outFrameBytes f }) := by
  unfold selectField
  simp only [firstFrom_signals h, hout]

theorem selectField_nothing (h : ∀ l : Fin 8, s.field.signals[l.val] = none) (hout : s.field.out = []) :
    selectField s = s := by
  unfold selectField
  simp only [firstFrom_signals h, hout]

end

/-- Settles O59: `fieldLayouts` gives the bytes, and the lemmas about `selectField` the choice. -/
theorem theFieldPortSendsSignalsFirst : Obligations.TheFieldPortSendsSignalsFirst := by
  refine ⟨fieldLayouts, fun s h => ?_, fun s hr htx => ?_, fun s frame l sig htx => ?_, fun s frame htx => ?_⟩
  · refine congrArg Host.Outcome.next (if_neg fun hmay => ?_)
    obtain ⟨hr, htx⟩ := maySelectField_iff.mp hmay
    exact h.elim (· hr) (· htx)
  · rw [exec_fieldSelect hr htx]
    refine ⟨fun l sig hsig hfirst => congrArg _ (selectField_signal hsig hfirst), fun hnone =>
      ⟨fun f rest hout => congrArg _ (selectField_queued hnone hout), fun hout => congrArg _ (selectField_nothing hnone hout)⟩⟩
  · change execControlSignalSent s = _
    simp only [execControlSignalSent, htx]; rfl
  · change execFieldOutFrameSent s = _
    simp only [execFieldOutFrameSent, htx, List.drop_one]; rfl

/-! ### The upstream arbiter (R164) -/

section
variable {s : State}

theorem maySelectUpstream_iff : maySelectUpstream s = true ↔ Receives s .trunk ∧ s.trunk.tx = none := by
  rw [maySelectUpstream, Bool.and_eq_true, ← receives_iff, Option.isNone_iff_eq_none]; rfl

theorem exec_upstreamSelect (h : Receives s .trunk) (htx : s.trunk.tx = none) :
    exec .upstreamSelect s = .next (selectUpstream s) :=
  congrArg Host.Outcome.next (if_pos (maySelectUpstream_iff.mpr ⟨h, htx⟩))

theorem replyIsReady_iff (sl : Slot) : replyIsReady sl = true ↔ ∃ r, sl.state = .replyReady r := by
  unfold replyIsReady
  split
  next r h => exact ⟨fun _ => ⟨r, h⟩, fun _ => rfl⟩
  next h => exact ⟨nofun, fun ⟨r, hr⟩ => absurd hr (h r)⟩

theorem not_replyIsReady {sl : Slot} (h : ∀ q, sl.state ≠ .replyReady q) : replyIsReady sl = false :=
  Bool.eq_false_iff.mpr fun hr => let ⟨q, hq⟩ := (replyIsReady_iff sl).mp hr; h q hq

/-- The oldest ready reply is selected, and its slot is SENDING (R164, R171). -/
theorem selectUpstream_reply {before after : List Slot} {sl : Slot} {rep : Reply}
    (hslots : s.requests.slots = before ++ sl :: after) (hsl : sl.state = .replyReady rep)
    (hbefore : ∀ x ∈ before, ∀ q, x.state ≠ .replyReady q) :
    selectUpstream s = { s with
      requests := { s.requests with slots := before ++ { sl with state := .sending rep } :: after },
      trunk := { s.trunk with tx := some { what := .reply, frame := replyFrame rep } } } := by
  have hready := (replyIsReady_iff sl).mpr ⟨rep, hsl⟩
  have hrest (x : Slot) (hx : x ∈ before) := not_replyIsReady (hbefore x hx)
  have hfind : s.requests.slots.find? replyIsReady = some sl := by
    rw [hslots, List.find?_append, List.find?_eq_none.mpr fun x hx => by rw [hrest x hx]; exact Bool.false_ne_true,
      Option.none_or, List.find?_cons_of_pos hready]
  have hreply : readyReply s = some rep := by simp only [readyReply, hfind, hsl]
  have hstart : startSending sl = { sl with state := .sending rep } := by simp only [startSending, hsl]
  unfold selectUpstream
  simp only [hreply, hslots, changeFirst_append replyIsReady startSending before after sl hrest hready, hstart]
  rfl

/-- With no reply ready the NOTICE and the findings are looked at (R164). -/
theorem readyReply_none (h : ∀ x ∈ s.requests.slots, ∀ q, x.state ≠ .replyReady q) : readyReply s = none := by
  have hfind : s.requests.slots.find? replyIsReady = none :=
    List.find?_eq_none.mpr fun x hx => by rw [not_replyIsReady (h x hx)]; exact Bool.false_ne_true
  simp only [readyReply, hfind]

/-! ### Frames sent in full -/

/-- A reply sent in full frees its slot (R171). -/
theorem filter_not_sending {before after : List Slot} {sl : Slot} {rep : Reply} (hsl : sl.state = .sending rep)
    (h : ∀ x ∈ before ++ after, ∀ q, x.state ≠ .sending q) :
    (before ++ sl :: after).filter (fun sl => !replyIsSending sl) = before ++ after := by
  have hkeep (x : Slot) (hx : x ∈ before ++ after) : (!replyIsSending x) = true := by
    rw [Bool.not_eq_true', ← Bool.not_eq_true, replyIsSending_iff]
    exact fun ⟨q, hq⟩ => h x hx q hq
  have hgone : ¬ (!replyIsSending sl) = true := by
    rw [(replyIsSending_iff sl).mpr ⟨rep, hsl⟩]; exact Bool.false_ne_true
  rw [List.filter_append, List.filter_cons_of_neg (p := fun sl => !replyIsSending sl) hgone, ← List.filter_append, List.filter_eq_self.mpr hkeep]

/-- The head finding leaves the queue (R149, R152). -/
theorem popFinding_findq (s : State) : (popFinding s).findq = { s.findq with
    records := s.findq.records.drop 1, lost := s.findq.lost && decide (1 < s.findq.records.length) } := by
  rw [popFinding, withEdges_findq]
  rcases s.findq.records with _ | ⟨f, _ | ⟨g, rest⟩⟩ <;> simp

/-- An engine that keeps no finding does not resume (R116). -/
theorem resumeEngine_none (h : ∀ w f, s.settle.engine = .settling w → w.kept ≠ some f) : resumeEngine s = s := by
  unfold resumeEngine
  split
  next w hw =>
    split
    next f hf => exact absurd hf (h w f hw)
    next => rfl
  next => rfl

end

/-- Settles O58: `trunkLayouts` gives the bytes, and the lemmas about `selectUpstream` the choice. -/
theorem theTrunkPortSendsByPriority : Obligations.TheTrunkPortSendsByPriority := by
  refine ⟨trunkLayouts, fun s h => ?_, fun s hr htx => ?_, fun s frame before after sl rep htx hslots hsl h => ?_,
    fun s frame conditions latches htx => ?_, fun s frame htx => ?_⟩
  · refine congrArg Host.Outcome.next (if_neg fun hmay => ?_)
    obtain ⟨hr, htx⟩ := maySelectUpstream_iff.mp hmay
    exact h.elim (· hr) (· htx)
  · rw [exec_upstreamSelect hr htx]
    refine ⟨fun before sl after rep hslots hsl hbefore => congrArg _ (selectUpstream_reply hslots hsl hbefore),
      fun hnone => ⟨fun hwaits => ?_, fun f rest hquiet hrecords => ?_, fun hquiet hrecords => ?_⟩⟩ <;>
      refine congrArg _ ?_ <;> unfold selectUpstream
    · simp only [readyReply_none hnone, hwaits, if_true]; rfl
    · simp only [readyReply_none hnone, hquiet, hrecords, Bool.false_eq_true, if_false]; rfl
    · simp only [readyReply_none hnone, hquiet, hrecords, Bool.false_eq_true, if_false]
  · change execReplySent s = _
    simp only [execReplySent, htx, hslots, filter_not_sending hsl h]; rfl
  · change execNoticeSent s = _
    simp only [execNoticeSent, htx]; rfl
  · have hexec : exec .findingSent s = .next (resumeEngine (popFinding (s.setTrunkTx none))) := by
      change execFindingSent s = _
      simp only [execFindingSent, htx]
    have hfindq := popFinding_findq (s.setTrunkTx none)
    have hframe : popFinding (s.setTrunkTx none) = { s.setTrunkTx none with
        findq := (popFinding (s.setTrunkTx none)).findq, notices := (popFinding (s.setTrunkTx none)).notices } := rfl
    rw [hexec]
    generalize popFinding (s.setTrunkTx none) = u at hfindq hframe
    refine ⟨u, hfindq, hframe, rfl, fun hnone => congrArg _ (resumeEngine_none fun w f hw => ?_)⟩
    rw [hframe] at hw
    exact hnone w f hw

end Sys2Proof.Machine
end

section
/-! Bytes read and written (section 9.7): numbers and the lists of sightings, events, records and knots, both ways. -/

namespace Sys2Proof.Machine

/-! ### Numbers -/

@[simp] theorem be_length (k x : Nat) : (be k x).length = k := by
  induction k generalizing x with
  | zero => rfl
  | succ k ih => rw [be, List.length_append, ih, List.length_singleton]

theorem fromBE_snoc (bs : List Byte) (b : Byte) : fromBE (bs ++ [b]) = fromBE bs * 256 + b.toNat := by
  rw [fromBE, List.foldl_append]; rfl

/-- A number that fits its bytes is what they spell. -/
theorem fromBE_be {k x : Nat} (h : x < 256 ^ k) : fromBE (be k x) = x := by
  induction k generalizing x with
  | zero => exact (Nat.lt_one_iff.mp h).symm
  | succ k ih =>
    rw [be, fromBE_snoc, ih (Nat.div_lt_of_lt_mul (by rwa [Nat.pow_succ, Nat.mul_comm] at h)), BitVec.toNat_ofNat]
    exact Nat.div_add_mod' x 256

theorem fromBE_lt (bs : List Byte) : fromBE bs < 256 ^ bs.length := by
  induction bs using List.reverseRecOn with
  | nil => exact Nat.one_pos
  | append_singleton bs b ih =>
    have hb := b.isLt
    rw [fromBE_snoc, List.length_append, List.length_singleton, Nat.pow_succ]
    omega

/-- Bytes are what their number is written as. -/
theorem be_fromBE (bs : List Byte) : be bs.length (fromBE bs) = bs := by
  induction bs using List.reverseRecOn with
  | nil => rfl
  | append_singleton bs b ih =>
    have hdiv : (fromBE bs * 256 + b.toNat) / 256 = fromBE bs := by have := b.isLt; omega
    have hmod : BitVec.ofNat 8 (fromBE bs * 256 + b.toNat) = b := by
      apply BitVec.eq_of_toNat_eq
      rw [BitVec.toNat_ofNat]
      have := b.isLt
      omega
    rw [fromBE_snoc, List.length_append, List.length_singleton, be, hdiv, ih, hmod]

theorem be_fromBE_of_length {k : Nat} {bs : List Byte} (h : bs.length = k) : be k (fromBE bs) = bs := h ▸ be_fromBE bs

/-- A word of n bits in k bytes, read. -/
theorem word_fromBE_be {n k : Nat} (h : 2 ^ n = 256 ^ k) (x : BitVec n) : BitVec.ofNat n (fromBE (be k x.toNat)) = x := by
  rw [fromBE_be (h ▸ x.isLt), BitVec.ofNat_toNat, BitVec.setWidth_eq]

/-- k bytes read as a word of n bits, written. -/
theorem be_word_fromBE {n k : Nat} (h : 2 ^ n = 256 ^ k) {bs : List Byte} (hlen : bs.length = k) :
    be k (BitVec.ofNat n (fromBE bs)).toNat = bs := by
  have hlt := fromBE_lt bs
  rw [hlen, ← h] at hlt
  rw [BitVec.toNat_ofNat, Nat.mod_eq_of_lt hlt, be_fromBE_of_length hlen]

theorem fromBE_singleton (b : Byte) : fromBE [b] = b.toNat := by rw [← List.nil_append [b], fromBE_snoc]; simp [fromBE]

theorem byte_toNat (b : Byte) : BitVec.ofNat 8 b.toNat = b := by rw [BitVec.ofNat_toNat, BitVec.setWidth_eq]

/-! ### Fields one after another -/

theorem take_be (k x : Nat) : (be k x).take k = be k x := List.take_of_length_le (by simp)

theorem take_be_append (k x : Nat) (rest : List Byte) : (be k x ++ rest).take k = be k x := List.take_left' (by simp)

theorem drop_be_append {k n : Nat} (x : Nat) (rest : List Byte) (h : k ≤ n) :
    (be k x ++ rest).drop n = rest.drop (n - k) := by
  rw [List.drop_append, List.drop_of_length_le (by simpa using h), be_length, List.nil_append]

theorem slice_length {bs : List Byte} {at_ k : Nat} (h : at_ + k ≤ bs.length) : ((bs.drop at_).take k).length = k := by
  rw [List.length_take, List.length_drop]; omega

/-- A field read and written again. -/
theorem be_slice {bs : List Byte} {at_ k : Nat} (h : at_ + k ≤ bs.length) :
    be k (fromBE ((bs.drop at_).take k)) = (bs.drop at_).take k := be_fromBE_of_length (slice_length h)

/-- Fields that follow each other. -/
theorem take_slice (bs : List Byte) (a b : Nat) : bs.take a ++ (bs.drop a).take b = bs.take (a + b) :=
  List.take_add.symm

/-! ### Lists of records of one width -/

/-- The length of records written one after another. -/
theorem written_length {α : Type} {write : α → List Byte} {k : Nat} (h : ∀ x, (write x).length = k) (xs : List α) :
    (xs.map write).flatten.length = k * xs.length := by
  induction xs with
  | nil => rfl
  | cons x xs ih => rw [List.map_cons, List.flatten_cons, List.length_append, h, ih, List.length_cons, Nat.mul_succ, Nat.add_comm]

/-- Records written one after another are read back, where each one is. -/
theorem read_written {α : Type} {readAll : Nat → List Byte → List α} {write : α → List Byte} {ok : α → Prop}
    (hnil : ∀ bs, readAll 0 bs = [])
    (hcons : ∀ x, ok x → ∀ n rest, readAll (n + 1) (write x ++ rest) = x :: readAll n rest) (xs : List α)
    (h : ∀ x ∈ xs, ok x) : readAll xs.length (xs.map write).flatten = xs := by
  induction xs with
  | nil => exact hnil _
  | cons x xs ih =>
    obtain ⟨hx, hxs⟩ := List.forall_mem_cons.mp h
    rw [List.map_cons, List.flatten_cons, List.length_cons, hcons x hx, ih hxs]

/-- Bytes read record by record are what the records are written as, where those of each one are. -/
theorem written_read {α : Type} {readAll : Nat → List Byte → List α} {write : α → List Byte} {k : Nat}
    (hnil : ∀ bs, readAll 0 bs = [])
    (hcons : ∀ n bs, k ≤ bs.length → ∃ x, write x = bs.take k ∧ readAll (n + 1) bs = x :: readAll n (bs.drop k))
    (n : Nat) (bs : List Byte) (h : bs.length = k * n) :
    (readAll n bs).length = n ∧ ((readAll n bs).map write).flatten = bs := by
  induction n generalizing bs with
  | zero =>
    rw [hnil, List.eq_nil_of_length_eq_zero h]
    exact ⟨rfl, rfl⟩
  | succ n ih =>
    rw [Nat.mul_succ] at h
    obtain ⟨x, hx, hread⟩ := hcons n bs (by omega)
    obtain ⟨hlen, hbytes⟩ := ih (bs.drop k) (by rw [List.length_drop]; omega)
    rw [hread, List.map_cons, List.flatten_cons, List.length_cons, hbytes, hlen, hx]
    exact ⟨rfl, List.take_append_drop k bs⟩

/-! ### Sightings (9.7.2) -/

theorem sightingBytes_length (w : WireSighting) : (sightingBytes w).length = 11 := by simp [sightingBytes]

theorem readSightings_cons {w : WireSighting} (hw : w.wellFormed = true) (n : Nat) (rest : List Byte) :
    readSightings (n + 1) (sightingBytes w ++ rest) = w :: readSightings n rest := by
  have hp : w.position < 32768 := (decide_eq_true_iff.mp (Bool.and_eq_true_iff.mp hw).1)
  have hword : w.position + (if w.positioned then 32768 else 0) < 256 ^ 2 := by split <;> omega
  have hset : decide (32768 ≤ w.position + if w.positioned then 32768 else 0) = w.positioned := by
    cases w.positioned with
    | true => simp
    | false => simpa using hp
  have hrest : (w.position + if w.positioned then 32768 else 0) % 32768 = w.position := by split <;> omega
  have hdrop : (sightingBytes w ++ rest).drop 11 = rest := List.drop_left' (sightingBytes_length w)
  rw [readSightings, hdrop]
  simp only [sightingBytes, List.append_assoc, take_be_append, drop_be_append, Nat.reduceLeDiff, Nat.reduceSub, le_refl,
    List.drop_zero, fromBE_be hword, word_fromBE_be (n := 64) (k := 8) rfl, word_fromBE_be (n := 8) (k := 1) rfl, hset, hrest]

theorem readSightings_flatten (ws : List WireSighting) (h : ∀ w ∈ ws, w.wellFormed = true) :
    readSightings ws.length (ws.map sightingBytes).flatten = ws :=
  read_written (fun _ => rfl) (fun _ hw => readSightings_cons hw) ws h

/-- Eleven bytes read as a sighting and written again. -/
theorem sightingBytes_read (bs : List Byte) (h : 11 ≤ bs.length) : sightingBytes
    { tag := BitVec.ofNat 64 (fromBE (bs.take 8)), rssi := BitVec.ofNat 8 (fromBE ((bs.drop 8).take 1)),
      positioned := decide (32768 ≤ fromBE ((bs.drop 9).take 2)), position := fromBE ((bs.drop 9).take 2) % 32768 } =
    bs.take 11 := by
  have hlt := fromBE_lt ((bs.drop 9).take 2)
  rw [slice_length (by omega)] at hlt
  have hword (p : Nat) (hp : p < 256 ^ 2) : (p % 32768 + if decide (32768 ≤ p) then 32768 else 0) = p := by
    split
    next h => have := of_decide_eq_true h; omega
    next h => have : ¬ 32768 ≤ p := by simpa using h
              omega
  rw [sightingBytes, hword _ hlt, be_slice (by omega), be_word_fromBE (n := 64) (k := 8) rfl (by simp; omega),
    be_word_fromBE (n := 8) (k := 1) rfl (slice_length (by omega)), take_slice, take_slice]

theorem readSightings_read (n : Nat) (bs : List Byte) (h : bs.length = 11 * n) :
    (readSightings n bs).length = n ∧ ((readSightings n bs).map sightingBytes).flatten = bs :=
  written_read (fun _ => rfl) (fun _ bs h => ⟨_, sightingBytes_read bs h, rfl⟩) n bs h

/-! ### Events (9.7.3) -/

theorem eventBytes_length (e : WireEvent) : (eventBytes e).length = 10 := by simp [eventBytes]

theorem readEvents_cons {e : WireEvent} (hk : e.kind < 256 ^ 1) (hs : e.status < 256 ^ 1) (n : Nat) (rest : List Byte) :
    readEvents (n + 1) (eventBytes e ++ rest) = e :: readEvents n rest := by
  have hdrop : (eventBytes e ++ rest).drop 10 = rest := List.drop_left' (eventBytes_length e)
  rw [readEvents, hdrop]
  simp only [eventBytes, List.append_assoc, take_be_append, drop_be_append, Nat.reduceLeDiff, Nat.reduceSub, le_refl,
    List.drop_zero, fromBE_be hk, fromBE_be hs, word_fromBE_be (n := 64) (k := 8) rfl]

theorem readEvents_flatten (es : List WireEvent) (h : ∀ e ∈ es, e.kind < 256 ^ 1 ∧ e.status < 256 ^ 1) :
    readEvents es.length (es.map eventBytes).flatten = es :=
  read_written (fun _ => rfl) (fun _ he => readEvents_cons he.1 he.2) es h

/-- Ten bytes read as an event and written again. -/
theorem eventBytes_read (bs : List Byte) (h : 10 ≤ bs.length) : eventBytes
    { kind := fromBE (bs.take 1), status := fromBE ((bs.drop 1).take 1),
      tag := BitVec.ofNat 64 (fromBE ((bs.drop 2).take 8)) } = bs.take 10 := by
  rw [eventBytes, be_fromBE_of_length (by simp; omega), be_slice (by omega),
    be_word_fromBE (n := 64) (k := 8) rfl (slice_length (by omega)), take_slice, take_slice]

theorem readEvents_read (n : Nat) (bs : List Byte) (h : bs.length = 10 * n) :
    (readEvents n bs).length = n ∧ ((readEvents n bs).map eventBytes).flatten = bs :=
  written_read (fun _ => rfl) (fun _ bs h => ⟨_, eventBytes_read bs h, rfl⟩) n bs h

/-! ### Item records (9.7.4) -/

theorem recordBytes_length (r : WireItem) : (recordBytes r).length = 13 := by simp [recordBytes]

theorem readRecords_cons {r : WireItem} (hs : r.status < 256 ^ 1) (n : Nat) (rest : List Byte) :
    readRecords (n + 1) (recordBytes r ++ rest) = r :: readRecords n rest := by
  have hdrop : (recordBytes r ++ rest).drop 13 = rest := List.drop_left' (recordBytes_length r)
  rw [readRecords, hdrop]
  simp only [recordBytes, List.append_assoc, take_be_append, drop_be_append, Nat.reduceLeDiff, Nat.reduceSub, le_refl,
    List.drop_zero, fromBE_be hs, word_fromBE_be (n := 64) (k := 8) rfl, word_fromBE_be (n := 32) (k := 4) rfl]

theorem readRecords_flatten (rs : List WireItem) (h : ∀ r ∈ rs, r.status < 256 ^ 1) :
    readRecords rs.length (rs.map recordBytes).flatten = rs :=
  read_written (fun _ => rfl) (fun _ hr => readRecords_cons hr) rs h

/-- Thirteen bytes read as a record and written again. -/
theorem recordBytes_read (bs : List Byte) (h : 13 ≤ bs.length) : recordBytes
    { tag := BitVec.ofNat 64 (fromBE (bs.take 8)), rank := BitVec.ofNat 32 (fromBE ((bs.drop 8).take 4)),
      status := fromBE ((bs.drop 12).take 1) } = bs.take 13 := by
  rw [recordBytes, be_word_fromBE (n := 64) (k := 8) rfl (by simp; omega),
    be_word_fromBE (n := 32) (k := 4) rfl (slice_length (by omega)), be_slice (by omega), take_slice, take_slice]

theorem readRecords_read (n : Nat) (bs : List Byte) (h : bs.length = 13 * n) :
    (readRecords n bs).length = n ∧ ((readRecords n bs).map recordBytes).flatten = bs :=
  written_read (fun _ => rfl) (fun _ bs h => ⟨_, recordBytes_read bs h, rfl⟩) n bs h

/-! ### Knots (R91) -/

/-- A list of words in two bytes each. -/
def knotBytes (ks : List (BitVec 16)) : List Byte := (ks.map fun k => be 2 k.toNat).flatten

theorem knotBytes_cons (k : BitVec 16) (ks : List (BitVec 16)) : knotBytes (k :: ks) = be 2 k.toNat ++ knotBytes ks := rfl

theorem knotBytes_length (ks : List (BitVec 16)) : (knotBytes ks).length = 2 * ks.length := by
  induction ks with
  | nil => rfl
  | cons k ks ih => rw [knotBytes_cons, List.length_append, be_length, ih, List.length_cons]; omega

/-- Word i stands at byte 2 i. -/
theorem word2_knotBytes (ks : List (BitVec 16)) (i : Nat) (h : i < ks.length) :
    BitVec.ofNat 16 (word2 (knotBytes ks) (2 * i)) = ks[i] := by
  induction ks generalizing i with
  | nil => exact absurd h (Nat.not_lt_zero i)
  | cons k ks ih =>
    rw [word2, knotBytes_cons]
    cases i with
    | zero => rw [Nat.mul_zero, List.drop_zero, take_be_append, word_fromBE_be (k := 2) rfl]; rfl
    | succ i =>
      rw [drop_be_append _ _ (by omega), List.getElem_cons_succ, show 2 * (i + 1) - 2 = 2 * i by omega]
      exact ih i (Nat.lt_of_succ_lt_succ h)

theorem readKnots_knotBytes (knots : Vector (BitVec 16) 17) : readKnots (knotBytes knots.toList) = knots := by
  ext1 i hi
  rw [readKnots, Vector.getElem_ofFn, word2_knotBytes _ _ (by simpa using hi)]
  simp

/-- Words read from their places and written again. -/
theorem knotBytes_ofFn (n : Nat) (bs : List Byte) (h : bs.length = 2 * n) :
    knotBytes (List.ofFn fun k : Fin n => BitVec.ofNat 16 (word2 bs (2 * k.val))) = bs := by
  induction n generalizing bs with
  | zero => exact (List.eq_nil_of_length_eq_zero h).symm
  | succ n ih =>
    have hrest (k : Fin n) : word2 bs (2 * k.succ.val) = word2 (bs.drop 2) (2 * k.val) := by
      rw [word2, word2, List.drop_drop, Fin.val_succ]
      congr 3
      omega
    rw [List.ofFn_succ, knotBytes_cons]
    simp only [hrest]
    rw [ih (bs.drop 2) (by rw [List.length_drop]; omega), word2, be_word_fromBE (k := 2) rfl (slice_length (by simp; omega))]
    exact List.take_append_drop 2 bs

theorem knotBytes_readKnots (bs : List Byte) (h : bs.length = 34) : knotBytes (readKnots bs).toList = bs := by
  rw [readKnots, Vector.toList_ofFn]
  exact knotBytes_ofFn 17 bs h

end Sys2Proof.Machine
end

section
/-! Requests and frames read and written (R158 to R161, 9.7): what a port reads is what the layouts give, both ways. -/

namespace Sys2Proof.Machine

/-! ### Requests as they are written (9.7.4) -/

theorem definedKind_iff (code : Nat) : definedKind code = true ↔ 1 ≤ code ∧ code ≤ 0x12 := decide_eq_true_iff

/-- Arguments of a defined kind and the right length are read. -/
theorem readRequest_defined {kind : Nat} {args : List Byte} {req : Request} (hkind : definedKind kind = true)
    (hlen : args.length = argumentLength kind args) (hread : readArguments kind args = req) :
    readRequest kind args = some req := by
  rw [readRequest, if_pos hkind, if_pos hlen, hread]

section
variable {g x y z : Nat}

/-- A segment number alone. -/
theorem word2_be (h : g < 256 ^ 2) : word2 (be 2 g) 0 = g := by
  rw [word2, List.drop_zero, take_be, fromBE_be h]

theorem fits1_iff (n : Nat) : fits1 n = true ↔ n < 256 ^ 1 := decide_eq_true_iff

theorem fits2_iff (n : Nat) : fits2 n = true ↔ n < 256 ^ 2 := decide_eq_true_iff

theorem readRequest_option (hx : x < 256 ^ 1) (hy : y < 256 ^ 1) (value : BitVec 32) :
    readRequest 0x03 (argumentBytes (.option x y value)) = some (.option x y value) := by
  refine readRequest_defined rfl (by simp [argumentBytes, argumentLength]) ?_
  simp only [readArguments, argumentBytes, byte1, List.append_assoc, take_be_append, drop_be_append, Nat.reduceLeDiff,
    Nat.reduceSub, le_refl, List.drop_zero, fromBE_be hx, fromBE_be hy, word_fromBE_be (n := 32) (k := 4) rfl]

theorem readRequest_setWindow (hx : x < 256 ^ 1) (hy : y < 256 ^ 2) (hz : z < 256 ^ 2) :
    readRequest 0x04 (argumentBytes (.setWindow x y z)) = some (.setWindow x y z) := by
  refine readRequest_defined rfl (by simp [argumentBytes, argumentLength]) ?_
  simp only [readArguments, argumentBytes, byte1, word2, List.append_assoc, take_be_append, take_be, drop_be_append,
    Nat.reduceLeDiff, Nat.reduceSub, le_refl, List.drop_zero, fromBE_be hx, fromBE_be hy, fromBE_be hz]

theorem readRequest_loadBegin (hg : g < 256 ^ 2) (hx : x < 256 ^ 2) (hy : y < 256 ^ 1) (hz : z < 256 ^ 2) :
    readRequest 0x06 (argumentBytes (.loadBegin g x y z)) = some (.loadBegin g x y z) := by
  refine readRequest_defined rfl (by simp [argumentBytes, argumentLength]) ?_
  simp only [readArguments, argumentBytes, byte1, word2, List.append_assoc, take_be_append, take_be, drop_be_append,
    Nat.reduceLeDiff, Nat.reduceSub, le_refl, List.drop_zero, fromBE_be hg, fromBE_be hx, fromBE_be hy, fromBE_be hz]

theorem readRequest_loadItems (hg : g < 256 ^ 2) (hx : x < 256 ^ 2) {records : List WireItem}
    (hcount : records.length < 256 ^ 1) (h : ∀ r ∈ records, r.status < 256 ^ 1) :
    readRequest 0x07 (argumentBytes (.loadItems g x records)) = some (.loadItems g x records) := by
  have hcount' : byte1 (argumentBytes (.loadItems g x records)) 4 = records.length := by
    simp only [argumentBytes, byte1, List.append_assoc, take_be_append, drop_be_append, Nat.reduceLeDiff, Nat.reduceSub,
      le_refl, List.drop_zero, fromBE_be hcount]
  refine readRequest_defined rfl ?_ ?_
  · simp only [argumentLength, hcount']
    simp [argumentBytes, -List.length_flatten, written_length recordBytes_length]; omega
  · simp only [readArguments, hcount']
    simp only [argumentBytes, word2, List.append_assoc, take_be_append, drop_be_append, Nat.reduceLeDiff, Nat.reduceSub,
      le_refl, List.drop_zero, fromBE_be hg, fromBE_be hx, readRecords_flatten records h]

theorem readRequest_queryItem (hx : x < 256 ^ 1) (value : BitVec 64) :
    readRequest 0x0E (argumentBytes (.queryItem x value)) = some (.queryItem x value) := by
  refine readRequest_defined rfl (by simp [argumentBytes, argumentLength]) ?_
  simp only [readArguments, argumentBytes, byte1, take_be_append, drop_be_append, Nat.reduceSub, le_refl, List.drop_zero,
    fromBE_be hx, word_fromBE_be (n := 64) (k := 8) rfl]

theorem readRequest_loadWeights (knots : Vector (BitVec 16) 17) :
    readRequest 0x0F (argumentBytes (.loadWeights knots)) = some (.loadWeights knots) := by
  have hbytes : argumentBytes (.loadWeights knots) = knotBytes knots.toList := rfl
  rw [hbytes]
  refine readRequest_defined rfl ?_ ?_
  · rw [knotBytes_length]; simp [argumentLength]
  · rw [readArguments, readKnots_knotBytes]

/-- A request of one segment number. -/
theorem readRequest_segment {kind : Nat} {req : Nat → Request} (hkind : definedKind kind = true)
    (hlen : ∀ args, argumentLength kind args = 2) (hread : ∀ args, readArguments kind args = req (word2 args 0))
    (hg : fits2 g = true) : readRequest kind (be 2 g) = some (req g) := by
  refine readRequest_defined hkind (by rw [be_length, hlen]) ?_
  rw [hread, word2_be ((fits2_iff g).mp hg)]

end

/-- What a well-formed request is written as is read as the request. -/
theorem readRequest_argumentBytes {req : Request} (h : req.wellFormed = true) :
    readRequest (requestCode req) (argumentBytes req) = some req := by
  cases req with
  | identify => rfl
  | readNotices => rfl
  | restartCount => rfl
  | reset => rfl
  | readStatus selector =>
    refine readRequest_defined rfl (be_length 1 selector) (congrArg Request.readStatus ?_)
    rw [byte1, List.drop_zero, argumentBytes, take_be, fromBE_be ((fits1_iff _).mp h)]
  | option operation code value =>
    obtain ⟨hop, hcode⟩ := Bool.and_eq_true_iff.mp h
    exact readRequest_option ((fits1_iff _).mp hop) ((fits1_iff _).mp hcode) value
  | setWindow lane base limit =>
    obtain ⟨hfirst, hlimit⟩ := Bool.and_eq_true_iff.mp h
    obtain ⟨hlane, hbase⟩ := Bool.and_eq_true_iff.mp hfirst
    exact readRequest_setWindow ((fits1_iff _).mp hlane) ((fits2_iff _).mp hbase) ((fits2_iff _).mp hlimit)
  | setClock value =>
    refine readRequest_defined rfl (be_length 4 _) (congrArg Request.setClock ?_)
    exact word_fromBE_be (n := 32) (k := 4) rfl value
  | loadBegin g count presence twin =>
    obtain ⟨hfirst, htwin⟩ := Bool.and_eq_true_iff.mp h
    obtain ⟨hfirst, hpresence⟩ := Bool.and_eq_true_iff.mp hfirst
    obtain ⟨hg, hcount⟩ := Bool.and_eq_true_iff.mp hfirst
    exact readRequest_loadBegin ((fits2_iff _).mp hg) ((fits2_iff _).mp hcount) ((fits1_iff _).mp hpresence)
      ((fits2_iff _).mp htwin)
  | loadItems g offset records =>
    obtain ⟨hfirst, hstatus⟩ := Bool.and_eq_true_iff.mp h
    obtain ⟨hfirst, hcount⟩ := Bool.and_eq_true_iff.mp hfirst
    obtain ⟨hg, hoffset⟩ := Bool.and_eq_true_iff.mp hfirst
    have hcount := of_decide_eq_true hcount
    exact readRequest_loadItems ((fits2_iff _).mp hg) ((fits2_iff _).mp hoffset) (by omega)
      fun r hr => (fits1_iff _).mp (List.all_eq_true.mp hstatus r hr)
  | loadEnd g => exact readRequest_segment rfl (fun _ => rfl) (fun _ => rfl) h
  | loadAbort g => exact readRequest_segment rfl (fun _ => rfl) (fun _ => rfl) h
  | unload g => exact readRequest_segment rfl (fun _ => rfl) (fun _ => rfl) h
  | recount g => exact readRequest_segment rfl (fun _ => rfl) (fun _ => rfl) h
  | closeSegment g => exact readRequest_segment rfl (fun _ => rfl) (fun _ => rfl) h
  | querySegment g => exact readRequest_segment rfl (fun _ => rfl) (fun _ => rfl) h
  | queryItem selector value => exact readRequest_queryItem ((fits1_iff _).mp h) value
  | loadWeights knots => exact readRequest_loadWeights knots
  | unknown code args =>
    obtain ⟨hfirst, -⟩ := Bool.and_eq_true_iff.mp h
    obtain ⟨-, hkind⟩ := Bool.and_eq_true_iff.mp hfirst
    exact if_neg (by simpa [requestCode] using hkind)

/-! ### Requests as they are read -/

/-- One byte alone. -/
theorem be_byte1 {args : List Byte} {at_ : Nat} (h : at_ + 1 ≤ args.length) :
    be 1 (byte1 args at_) = (args.drop at_).take 1 := be_slice h

theorem be_word2 {args : List Byte} {at_ : Nat} (h : at_ + 2 ≤ args.length) :
    be 2 (word2 args at_) = (args.drop at_).take 2 := be_slice h

/-- The first field, and the whole of the fields. -/
theorem be_word2_whole {args : List Byte} (h : args.length = 2) : be 2 (word2 args 0) = args := by
  rw [be_word2 (by omega), List.drop_zero, List.take_of_length_le h.le]

theorem argumentBytes_loadItems {args : List Byte} (h : args.length = 5 + 13 * byte1 args 4) :
    argumentBytes (.loadItems (word2 args 0) (word2 args 2) (readRecords (byte1 args 4) (args.drop 5))) = args := by
  obtain ⟨hcount, hrecords⟩ := readRecords_read (byte1 args 4) (args.drop 5) (by rw [List.length_drop]; omega)
  rw [argumentBytes, hcount, hrecords, be_word2 (by omega), be_word2 (by omega), be_byte1 (by omega), List.drop_zero,
    take_slice, take_slice, List.take_append_drop]

/-- Arguments of a defined kind and the right length spell a request of that kind, which is written as they are. -/
theorem readArguments_spells (kind : Nat) (args : List Byte) (hkind : definedKind kind = true)
    (h : args.length = argumentLength kind args) :
    requestCode (readArguments kind args) = kind ∧ argumentBytes (readArguments kind args) = args := by
  have hnil (h : args.length = 0) : [] = args := (List.eq_nil_of_length_eq_zero h).symm
  match kind with
  | 0x01 => exact ⟨rfl, hnil h⟩
  | 0x02 =>
    have h : args.length = 1 := h
    refine ⟨rfl, ?_⟩
    rw [readArguments, argumentBytes, be_byte1 (by omega), List.drop_zero, List.take_of_length_le h.le]
  | 0x03 =>
    have h : args.length = 6 := h
    refine ⟨rfl, ?_⟩
    rw [readArguments, argumentBytes, be_byte1 (by omega), be_byte1 (by omega),
      be_word_fromBE (n := 32) (k := 4) rfl (by rw [List.length_drop]; omega), List.drop_zero, take_slice,
      List.take_append_drop]
  | 0x04 =>
    have h : args.length = 5 := h
    refine ⟨rfl, ?_⟩
    rw [readArguments, argumentBytes, be_byte1 (by omega), be_word2 (by omega), be_word2 (by omega), List.drop_zero,
      take_slice, take_slice, List.take_of_length_le h.le]
  | 0x05 => exact ⟨rfl, be_word_fromBE (n := 32) (k := 4) rfl h⟩
  | 0x06 =>
    have h : args.length = 7 := h
    refine ⟨rfl, ?_⟩
    rw [readArguments, argumentBytes, be_word2 (by omega), be_word2 (by omega), be_byte1 (by omega), be_word2 (by omega),
      List.drop_zero, take_slice, take_slice, take_slice, List.take_of_length_le h.le]
  | 0x07 => exact ⟨rfl, argumentBytes_loadItems h⟩
  | 0x08 => exact ⟨rfl, be_word2_whole h⟩
  | 0x09 => exact ⟨rfl, be_word2_whole h⟩
  | 0x0A => exact ⟨rfl, be_word2_whole h⟩
  | 0x0B => exact ⟨rfl, be_word2_whole h⟩
  | 0x0C => exact ⟨rfl, be_word2_whole h⟩
  | 0x0D => exact ⟨rfl, be_word2_whole h⟩
  | 0x0E =>
    have h : args.length = 9 := h
    refine ⟨rfl, ?_⟩
    rw [readArguments, argumentBytes, be_byte1 (by omega),
      be_word_fromBE (n := 64) (k := 8) rfl (by rw [List.length_drop]; omega), List.drop_zero, List.take_append_drop]
  | 0x0F => exact ⟨rfl, knotBytes_readKnots args h⟩
  | 0x10 => exact ⟨rfl, hnil h⟩
  | 0x11 => exact ⟨rfl, hnil h⟩
  | 0x12 => exact ⟨rfl, hnil h⟩
  | 0 => exact absurd ((definedKind_iff 0).mp hkind).1 (by decide)
  | n + 0x13 => exact absurd ((definedKind_iff _).mp hkind).2 (by omega)

/-- What is read as a request is what the request is written as. -/
theorem readRequest_eq_some {kind : Nat} {args : List Byte} {req : Request} (h : readRequest kind args = some req) :
    requestCode req = kind ∧ argumentBytes req = args := by
  rw [readRequest] at h
  split at h
  next hkind =>
    split at h
    next hlen =>
      obtain rfl := Option.some.inj h
      exact readArguments_spells kind args hkind hlen
    next => cases h
  next =>
    obtain rfl := Option.some.inj h
    exact ⟨rfl, rfl⟩

/-! ### Frames (R158 to R160) -/

theorem frameBytes_length (cls : Nat) (payload : List Byte) : (frameBytes cls payload).length = payload.length + 4 := by
  simp [frameBytes]

/-- A frame of a payload that fits passes the framing and CRC checks. -/
theorem openFrame_frameBytes {cls : Nat} {payload : List Byte} (hcls : cls < 256) (hlen : payload.length ≤ 240) :
    openFrame (frameBytes cls payload) = some (cls, payload) := by
  have hfull := frameBytes_length cls payload
  have hcount : (BitVec.ofNat 8 payload.length).toNat = payload.length := by rw [BitVec.toNat_ofNat]; omega
  have hclass : (BitVec.ofNat 8 cls).toNat = cls := by rw [BitVec.toNat_ofNat]; omega
  rw [frameBytes] at hfull ⊢
  simp only [List.cons_append] at hfull ⊢
  rw [openFrame, if_neg (by rw [hfull, hcount]; omega), hcount, List.take_left, List.drop_left, if_pos rfl, hclass]

/-- What passes the framing and CRC checks is the frame of its class and payload. -/
theorem openFrame_eq_some {bs : List Byte} {cls : Nat} {payload : List Byte} (h : openFrame bs = some (cls, payload)) :
    bs = frameBytes cls payload := by
  unfold openFrame at h
  split at h
  next c len rest =>
    split at h
    · cases h
    next hlen =>
      split at h
      next hcrc =>
        obtain ⟨rfl, rfl⟩ := Prod.ext_iff.mp (Option.some.inj h)
        have hrest : (rest.take len.toNat).length = len.toNat := by
          rw [List.length_take]
          simp only [List.length_cons] at hlen
          omega
        rw [frameBytes, hrest, byte_toNat, byte_toNat, ← hcrc, List.cons_append, List.cons_append, List.take_append_drop]
      next => cases h
  next => cases h

/-- A port reads the command that a frame's class and payload spell, if it is well formed (R160, R161). -/
theorem receive_eq_some {p : Port} {bs : List Byte} {i : Instr} : receive p bs = some i ↔
    ∃ cls payload, openFrame bs = some (cls, payload) ∧ i.wellFormed = true ∧
      (p = .field ∧ readFieldFrame cls payload = some i ∨ p = .trunk ∧ readTrunkFrame cls payload = some i) := by
  unfold receive
  cases hopen : openFrame bs with
  | none => simp
  | some x =>
    obtain ⟨cls, payload⟩ := x
    cases p with
    | field =>
      cases hread : readFieldFrame cls payload with
      | none => simp [hread]
      | some j => 
        simp [hread]
        exact congrArg Instr.wellFormed
    | trunk =>
      cases hread : readTrunkFrame cls payload with
      | none => simp [hread]
      | some j => 
        simp [hread]
        exact congrArg Instr.wellFormed

end Sys2Proof.Machine
end

section
/-! The frames that arrive (R158 to R161, R167, R169): each command's frame is read as the command, and read back from what was
read; and what the ports do with frames that fail a check. -/

namespace Sys2Proof.Machine

/-! ### A command's frame is read as the command -/

/-- A lane number, or a count of a list that fits a frame, in its byte. -/
theorem byte_of_nat {n : Nat} (h : n < 256) : (BitVec.ofNat 8 n).toNat = n := by rw [BitVec.toNat_ofNat]; omega

/-- A well-formed request fits a frame. -/
theorem argumentBytes_length_le {req : Request} (h : req.wellFormed = true) : (argumentBytes req).length ≤ 238 := by
  cases req with
  | loadItems g offset records =>
    obtain ⟨hfirst, -⟩ := Bool.and_eq_true_iff.mp h
    have hcount := of_decide_eq_true (Bool.and_eq_true_iff.mp hfirst).2
    simp only [argumentBytes, List.length_append, be_length, written_length recordBytes_length]
    omega
  | loadWeights knots =>
    have hlen := knotBytes_length knots.toList
    rw [Vector.length_toList] at hlen
    exact hlen.le.trans (by decide)
  | unknown code args => exact of_decide_eq_true (Bool.and_eq_true_iff.mp h).2
  | _ => simp [argumentBytes]

theorem requestCode_lt {req : Request} (h : req.wellFormed = true) : requestCode req < 256 := by
  cases req with
  | unknown code args =>
    obtain ⟨hfirst, -⟩ := Bool.and_eq_true_iff.mp h
    exact (fits1_iff code).mp (Bool.and_eq_true_iff.mp hfirst).1
  | _ => simp [requestCode]

/-- A frame of the Field Link whose class and payload are read as a well-formed command. -/
theorem receive_field {cls : Nat} {payload : List Byte} {i : Instr} (hwell : i.wellFormed = true) (hcls : cls < 256)
    (hlen : payload.length ≤ 240) (hread : readFieldFrame cls payload = some i) :
    receive .field (frameBytes cls payload) = some i :=
  receive_eq_some.mpr ⟨cls, payload, openFrame_frameBytes hcls hlen, hwell, .inl ⟨rfl, hread⟩⟩

theorem receive_trunk {cls : Nat} {payload : List Byte} {i : Instr} (hwell : i.wellFormed = true) (hcls : cls < 256)
    (hlen : payload.length ≤ 240) (hread : readTrunkFrame cls payload = some i) :
    receive .trunk (frameBytes cls payload) = some i :=
  receive_eq_some.mpr ⟨cls, payload, openFrame_frameBytes hcls hlen, hwell, .inr ⟨rfl, hread⟩⟩

/-- A frame of one lane number. -/
theorem receive_lane {cls lane : Nat} {i : Nat → Instr} (hlane : lane < 8) (hwell : (i lane).wellFormed = true)
    (hcls : cls < 256) (hread : ∀ b : Byte, readFieldFrame cls [b] = some (i b.toNat)) :
    receive .field (frameBytes cls [BitVec.ofNat 8 lane]) = some (i lane) :=
  receive_field hwell hcls (by simp) (by rw [hread, byte_of_nat (by omega)])

theorem receive_enter {lane rel : Nat} (h : (Instr.enterFrame lane rel).wellFormed = true) :
    receive .field (frameBytes 0x03 (BitVec.ofNat 8 lane :: be 2 rel)) = some (.enterFrame lane rel) := by
  obtain ⟨hlane, hrel⟩ := Bool.and_eq_true_iff.mp h
  have hlane := of_decide_eq_true hlane
  have hrel := of_decide_eq_true hrel
  refine receive_field h (by decide) (by simp) ?_
  have hread (b : Byte) (bs : List Byte) (hbs : bs.length = 2) :
      readFieldFrame 0x03 (b :: bs) = some (.enterFrame b.toNat (fromBE bs)) := if_pos hbs
  rw [hread _ _ (be_length 2 rel), byte_of_nat (by omega), fromBE_be (by omega)]

theorem receive_sight {lane : Nat} {ws : List WireSighting} (h : (Instr.sightFrame lane ws).wellFormed = true) :
    receive .field (frameBytes 0x04
      (BitVec.ofNat 8 lane :: BitVec.ofNat 8 ws.length :: (ws.map sightingBytes).flatten)) = some (.sightFrame lane ws) := by
  obtain ⟨hfirst, hall⟩ := Bool.and_eq_true_iff.mp h
  obtain ⟨hlane, hcount⟩ := Bool.and_eq_true_iff.mp hfirst
  have hlane := of_decide_eq_true hlane
  have hcount := of_decide_eq_true hcount
  have hlen := written_length sightingBytes_length ws
  refine receive_field h (by decide) (by rw [List.length_cons, List.length_cons, hlen]; omega) ?_
  have hread (b n : Byte) (bs : List Byte) (hbs : bs.length = 11 * n.toNat) :
      readFieldFrame 0x04 (b :: n :: bs) = some (.sightFrame b.toNat (readSightings n.toNat bs)) := if_pos hbs
  rw [hread _ _ _ (by rw [hlen, byte_of_nat (by omega)]), byte_of_nat (by omega), byte_of_nat (by omega),
    readSightings_flatten ws (List.all_eq_true.mp hall)]

theorem receive_circ {events : List WireEvent} (h : (Instr.circ events).wellFormed = true) :
    receive .trunk (frameBytes 0x22 (BitVec.ofNat 8 events.length :: (events.map eventBytes).flatten)) =
      some (.circ events) := by
  obtain ⟨hcount, hall⟩ := Bool.and_eq_true_iff.mp h
  have hcount := of_decide_eq_true hcount
  have hlen := written_length eventBytes_length events
  refine receive_trunk h (by decide) (by rw [List.length_cons, hlen]; omega) ?_
  have hread (n : Byte) (bs : List Byte) (hbs : bs.length = 10 * n.toNat) :
      readTrunkFrame 0x22 (n :: bs) = some (.circ (readEvents n.toNat bs)) := if_pos hbs
  have hfits (e : WireEvent) (he : e ∈ events) : e.kind < 256 ^ 1 ∧ e.status < 256 ^ 1 := by
    obtain ⟨hk, hs⟩ := Bool.and_eq_true_iff.mp (List.all_eq_true.mp hall e he)
    exact ⟨(fits1_iff _).mp hk, (fits1_iff _).mp hs⟩
  rw [hread _ _ (by rw [hlen, byte_of_nat (by omega)]), byte_of_nat (by omega), readEvents_flatten events hfits]

theorem receive_laneMsg {lane : Nat} {body : List Byte} (h : (Instr.laneMsg lane body).wellFormed = true) :
    receive .trunk (frameBytes 0x14 (BitVec.ofNat 8 lane :: body)) = some (.laneMsg lane body) := by
  obtain ⟨hlane, hbody⟩ := Bool.and_eq_true_iff.mp h
  have hlane := of_decide_eq_true hlane
  have hbody := of_decide_eq_true hbody
  refine receive_trunk h (by decide) (by rw [List.length_cons]; omega) ?_
  have hread (b : Byte) : readTrunkFrame 0x14 (b :: body) = some (.laneMsg b.toNat body) := if_pos hbody
  rw [hread, byte_of_nat (by omega)]

theorem receive_request {tag : Byte} {req : Request} (h : req.wellFormed = true) :
    receive .trunk (frameBytes 0x21 (tag :: BitVec.ofNat 8 (requestCode req) :: argumentBytes req)) =
      some (.request tag req) := by
  have hlen := argumentBytes_length_le h
  refine receive_trunk h (by decide) (by rw [List.length_cons, List.length_cons]; omega) ?_
  have hread (kind : Byte) (args : List Byte) :
      readTrunkFrame 0x21 (tag :: kind :: args) = (readRequest kind.toNat args).map (.request tag) := rfl
  rw [hread, byte_of_nat (requestCode_lt h), readRequest_argumentBytes h]
  rfl

/-- Settles O18: a lemma for each command that a frame brings, and `arrivalLayouts` for the bytes. -/
theorem portsReadTheFramesTheyAreSent : Obligations.PortsReadTheFramesTheyAreSent := by
  refine ⟨arrivalLayouts, fun i port frame hwell hframe => ?_⟩
  cases i with
  | laneUp lane =>
    obtain ⟨rfl, rfl⟩ := Prod.ext_iff.mp (Option.some.inj hframe)
    exact receive_lane (of_decide_eq_true hwell) hwell (by decide) fun _ => rfl
  | laneDown lane =>
    obtain ⟨rfl, rfl⟩ := Prod.ext_iff.mp (Option.some.inj hframe)
    exact receive_lane (of_decide_eq_true hwell) hwell (by decide) fun _ => rfl
  | leaveFrame lane =>
    obtain ⟨rfl, rfl⟩ := Prod.ext_iff.mp (Option.some.inj hframe)
    exact receive_lane (of_decide_eq_true hwell) hwell (by decide) fun _ => rfl
  | enterFrame lane rel =>
    obtain ⟨rfl, rfl⟩ := Prod.ext_iff.mp (Option.some.inj hframe)
    exact receive_enter hwell
  | sightFrame lane ws =>
    obtain ⟨rfl, rfl⟩ := Prod.ext_iff.mp (Option.some.inj hframe)
    exact receive_sight hwell
  | circ events =>
    obtain ⟨rfl, rfl⟩ := Prod.ext_iff.mp (Option.some.inj hframe)
    exact receive_circ hwell
  | laneMsg lane body =>
    obtain ⟨rfl, rfl⟩ := Prod.ext_iff.mp (Option.some.inj hframe)
    exact receive_laneMsg hwell
  | request tag req =>
    obtain ⟨rfl, rfl⟩ := Prod.ext_iff.mp (Option.some.inj hframe)
    exact receive_request hwell
  | _ => cases hframe

/-! ### What is read is a command's frame -/

theorem arrivalFrame_readFieldFrame {cls : Nat} {payload : List Byte} {i : Instr}
    (h : readFieldFrame cls payload = some i) : arrivalFrame i = some (.field, frameBytes cls payload) := by
  unfold readFieldFrame at h
  split at h
  · cases h
  next lane rest =>
    split at h
    next hcls =>
      split at h
      next hrest =>
        obtain rfl := Option.some.inj h
        rw [hcls, hrest, arrivalFrame, byte_toNat]
      next => cases h
    next =>
    split at h
    next hcls =>
      split at h
      next hrest =>
        obtain rfl := Option.some.inj h
        rw [hcls, hrest, arrivalFrame, byte_toNat]
      next => cases h
    next =>
    split at h
    next hcls =>
      split at h
      next hrest =>
        obtain rfl := Option.some.inj h
        rw [hcls, arrivalFrame, byte_toNat, be_fromBE_of_length hrest]
      next => cases h
    next =>
    split at h
    next hcls =>
      split at h
      · cases h
      next n bs =>
        split at h
        next hbs =>
          obtain rfl := Option.some.inj h
          obtain ⟨hcount, hbytes⟩ := readSightings_read n.toNat bs hbs
          rw [hcls, arrivalFrame, hcount, hbytes, byte_toNat, byte_toNat]
        next => cases h
    next =>
    split at h
    next hcls =>
      split at h
      next hrest =>
        obtain rfl := Option.some.inj h
        rw [hcls, hrest, arrivalFrame, byte_toNat]
      next => cases h
    next => cases h

theorem arrivalFrame_readTrunkFrame {cls : Nat} {payload : List Byte} {i : Instr}
    (h : readTrunkFrame cls payload = some i) : arrivalFrame i = some (.trunk, frameBytes cls payload) := by
  unfold readTrunkFrame at h
  split at h
  next hcls =>
    split at h
    · cases h
    next lane body =>
      split at h
      next =>
        obtain rfl := Option.some.inj h
        rw [hcls, arrivalFrame, byte_toNat]
      next => cases h
  next =>
  split at h
  next hcls =>
    split at h
    next tag kind args =>
      obtain ⟨req, hreq, rfl⟩ := Option.map_eq_some_iff.mp h
      obtain ⟨hkind, hargs⟩ := readRequest_eq_some hreq
      rw [hcls, arrivalFrame, hkind, hargs, byte_toNat]
    next => cases h
  next =>
  split at h
  next hcls =>
    split at h
    · cases h
    next n bs =>
      split at h
      next hbs =>
        obtain rfl := Option.some.inj h
        obtain ⟨hcount, hbytes⟩ := readEvents_read n.toNat bs hbs
        rw [hcls, arrivalFrame, hcount, hbytes, byte_toNat]
      next => cases h
  next => cases h

theorem arrivalFrame_of_receive {p : Port} {bs : List Byte} {i : Instr} (h : receive p bs = some i) :
    i.wellFormed = true ∧ arrivalFrame i = some (p, bs) := by
  obtain ⟨cls, payload, hopen, hwell, ⟨rfl, hread⟩ | ⟨rfl, hread⟩⟩ := receive_eq_some.mp h
  · exact ⟨hwell, openFrame_eq_some hopen ▸ arrivalFrame_readFieldFrame hread⟩
  · exact ⟨hwell, openFrame_eq_some hopen ▸ arrivalFrame_readTrunkFrame hread⟩

/-! ### Frames that fail a field check, and ports that do not receive (R161, R162) -/

section
variable {s : State}

theorem takeLaneFrame_bad (hr : Receives s .field) {lane : Nat} {ok : Bool} (h : 8 ≤ lane ∨ ok = false)
    (act : Fin 8 → State → State) : takeLaneFrame s lane ok act = discardField s := by
  have hbad : ¬ (lane < 8 ∧ ok = true) := fun ⟨hl, hok⟩ => h.elim (Nat.not_le.mpr hl) fun hf => by rw [hf] at hok; cases hok
  have hreceives : fieldReceives s = true := (receives_iff s .field).mpr hr
  rw [takeLaneFrame, if_pos hreceives, dif_neg hbad]

theorem takeTrunkFrame_bad (hr : Receives s .trunk) {ok : Bool} (h : ok = false) (act : State → State) :
    takeTrunkFrame s ok act = discardTrunk s := by
  have hreceives : trunkReceives s = true := (receives_iff s .trunk).mpr hr
  rw [takeTrunkFrame, if_pos hreceives, h]; rfl

theorem takeLaneFrame_deaf (hr : ¬ Receives s .field) (lane : Nat) (ok : Bool) (act : Fin 8 → State → State) :
    takeLaneFrame s lane ok act = s := if_neg fun h => hr ((receives_iff s .field).mp h)

theorem takeTrunkFrame_deaf (hr : ¬ Receives s .trunk) (ok : Bool) (act : State → State) :
    takeTrunkFrame s ok act = s := if_neg fun h => hr ((receives_iff s .trunk).mp h)

theorem sightFieldsOk_eq_false {ws : List WireSighting}
    (h : ws = [] ∨ 8 < ws.length ∨ ∃ w ∈ ws, w.positioned = true ∧ 4095 < w.position) : sightFieldsOk ws = false := by
  rw [sightFieldsOk, Bool.and_eq_false_iff]
  rcases h with rfl | hlen | ⟨w, hw, hpos, hfar⟩
  · exact .inl rfl
  · exact .inl (decide_eq_false (by omega))
  · refine .inr (List.all_eq_false.mpr ⟨w, hw, ?_⟩)
    rw [hpos, decide_eq_false (by omega)]
    exact Bool.false_ne_true

theorem circFieldsOk_eq_false {events : List WireEvent} (h : events = [] ∨ 8 < events.length) :
    circFieldsOk events = false := by
  refine decide_eq_false ?_
  rcases h with rfl | hlen
  · exact fun ⟨h1, _⟩ => absurd h1 (by decide)
  · omega

theorem requestFieldsOk_loadItems {g offset : Nat} {records : List WireItem} (h : records = [] ∨ 16 < records.length) :
    requestFieldsOk (.loadItems g offset records) = false := by
  refine decide_eq_false ?_
  rcases h with rfl | hlen
  · exact fun ⟨h1, _⟩ => absurd h1 (by decide)
  · omega

/-- A discarded frame raises its port's tally (R160). -/
theorem exec_frameDiscard (hr : Receives s p) {what : Received}
    (h : what = .interrupted ∨ ∃ bs, what = .bytes bs ∧ receive p bs = none) :
    exec (.frameDiscard p what) s = .next (discardAt p s) := by
  change execFrameDiscard p what s = _
  unfold execFrameDiscard
  rw [if_pos ((receives_iff s p).mpr hr)]
  rcases h with rfl | ⟨bs, rfl, hbs⟩
  · rfl
  · simp only [hbs, Option.isNone_none, if_true]

theorem exec_frameDiscard_passes {bs : List Byte} {i : Instr} (h : receive p bs = some i) :
    exec (.frameDiscard p (.bytes bs)) s = .next s := by
  change execFrameDiscard p (.bytes bs) s = _
  simp only [execFrameDiscard, h, Option.isNone_some, Bool.false_eq_true, if_false, ite_self]

theorem exec_frameDiscard_deaf (hr : ¬ Receives s p) (what : Received) : exec (.frameDiscard p what) s = .next s :=
  congrArg Host.Outcome.next (if_neg fun h => hr ((receives_iff s p).mp h))

/-- A LANE_MSG of a lane is offered to the Field-Out Queue (R169). -/
theorem exec_laneMsg (hr : Receives s .trunk) {lane : Nat} {body : List Byte} (hlane : lane < 8)
    (hbody : body.length ≤ 239) : exec (.laneMsg lane body) s = .next (offerFieldOut s (.laneMsg lane body)) := by
  have hok : (decide (lane < 8) && decide (body.length ≤ 239)) = true := by rw [decide_eq_true hlane, decide_eq_true hbody]; rfl
  change execLaneMsg lane body s = _
  rw [execLaneMsg, hok, takeTrunkFrame_of_receives hr]

end

/-- Settles O57: `arrivalFrame_of_receive` says what is read, and the rest goes by the two ways of taking a frame. -/
theorem framesAreCheckedOrForwarded : Obligations.FramesAreCheckedOrForwarded := by
  refine ⟨fun p bs i h => arrivalFrame_of_receive h, fun s p what hr => ⟨fun h => ?_, fun bs i hwhat h => ?_⟩,
    fun s lane rel i hr h => ?_, fun s lane frame hr h => ?_, fun s i hr h => ?_, fun s i p hr h => ?_,
    fun s lane body hbody => ⟨fun hr hlane => ⟨fun hroom => ?_, fun hfull => ?_⟩, fun hr hlane => ?_⟩⟩
  · rw [exec_frameDiscard hr h]
    cases p <;> rfl
  · rw [hwhat]
    exact exec_frameDiscard_passes h
  · rcases h with ⟨hlane, rfl | rfl | rfl⟩ | ⟨hbad, rfl⟩
    · exact congrArg Host.Outcome.next (takeLaneFrame_bad hr (.inl hlane) _)
    · exact congrArg Host.Outcome.next (takeLaneFrame_bad hr (.inl hlane) _)
    · exact congrArg Host.Outcome.next (takeLaneFrame_bad hr (.inl hlane) _)
    · exact congrArg Host.Outcome.next
        (takeLaneFrame_bad hr (hbad.imp id fun hrel => decide_eq_false (Nat.not_le.mpr hrel)) _)
  · exact congrArg Host.Outcome.next (takeLaneFrame_bad hr (h.imp id sightFieldsOk_eq_false) _)
  · rcases h with ⟨events, hbad, rfl⟩ | ⟨tag, g, offset, records, hbad, rfl⟩
    · exact congrArg Host.Outcome.next (takeTrunkFrame_bad hr (circFieldsOk_eq_false hbad) _)
    · exact congrArg Host.Outcome.next (takeTrunkFrame_bad hr (requestFieldsOk_loadItems hbad) _)
  · rcases h with ⟨rfl, ⟨lane, rfl | rfl | rfl⟩ | ⟨lane, rel, rfl⟩ | ⟨lane, frame, rfl⟩⟩ |
      ⟨rfl, ⟨tag, req, rfl⟩ | ⟨events, rfl⟩ | ⟨lane, body, rfl⟩⟩ | ⟨what, rfl⟩
    · exact congrArg Host.Outcome.next (takeLaneFrame_deaf hr ..)
    · exact congrArg Host.Outcome.next (takeLaneFrame_deaf hr ..)
    · exact congrArg Host.Outcome.next (takeLaneFrame_deaf hr ..)
    · exact congrArg Host.Outcome.next (takeLaneFrame_deaf hr ..)
    · exact congrArg Host.Outcome.next (takeLaneFrame_deaf hr ..)
    · exact congrArg Host.Outcome.next (takeTrunkFrame_deaf hr ..)
    · exact congrArg Host.Outcome.next (takeTrunkFrame_deaf hr ..)
    · exact congrArg Host.Outcome.next (takeTrunkFrame_deaf hr ..)
    · exact exec_frameDiscard_deaf hr what
  · rw [exec_laneMsg hr hlane hbody, offerFieldOut, if_pos hroom]
  · rw [exec_laneMsg hr hlane hbody, offerFieldOut, if_neg (Nat.not_lt.mpr hfull)]
    rfl
  · refine congrArg Host.Outcome.next (takeTrunkFrame_bad hr ?_ _)
    rw [decide_eq_false (Nat.not_lt.mpr hlane)]; rfl

end Sys2Proof.Machine
end
